-- ==== Sys2Proof/Word.lean ====
section
/-! DEFINITION. The word types of ARM8 (spec/00_scope.md R9, R10): a word is 32 bits, a halfword 16, a byte 8;
register fields of an instruction are four bits wide (spec/30_encoding.md R161). -/

namespace Sys2Proof

/-- A 32-bit word: register contents, addresses while they are computed, instruction words (R6, R9). -/
abbrev Word := BitVec 32

/-- A 16-bit halfword (R9). -/
abbrev Half := BitVec 16

/-- An 8-bit byte (R9). -/
abbrev Byte := BitVec 8

/-- A register number as an instruction's field holds it, 0 to 15 (R161). -/
abbrev RegNo := BitVec 4

end Sys2Proof
end

