-- ==== Sys2Proof/Config.lean ====
section
/-! DEFINITION. What the implementation fixes: the names of the modes and of the physical registers, and the FREE
VALUES, the `UNSPECIFIED(n)` of spec/00_scope.md R12. A free value has no body: nothing in Lean can evaluate it or prove
a value of it, so a theorem about it holds whatever the hardware produces. Log entry 1. -/

namespace Sys2Proof

/-- The eleven valid modes of `CPSR.M[4:0]` (spec/10_state.md R47). -/
inductive Mode where
  | usr | fiq | irq | svc | abt | und | sys
  | usr26 | fiq26 | irq26 | svc26
  deriving DecidableEq, Repr

/-- The six register banks (R31): the 26-bit modes share the banks of their 32-bit counterparts, and System mode
shares User's. -/
inductive Bank where
  | usr | fiq | irq | svc | abt | und
  deriving DecidableEq, Repr

/-- The thirty general registers other than R15, by physical name (R31). -/
inductive PhysReg where
  /-- R0 to R7. -/
  | low (i : Fin 8)
  /-- R8 to R12 of every mode but FIQ. -/
  | mid (i : Fin 5)
  /-- R8_fiq to R12_fiq. -/
  | midFiq (i : Fin 5)
  /-- R13 of a bank. -/
  | r13 (b : Bank)
  /-- R14 of a bank. -/
  | r14 (b : Bank)
  deriving DecidableEq, Repr

/-- Which operand of an instruction a register is read for. -/
inductive Port where
  | n | m | s | d
  deriving DecidableEq, Repr

/-- The six status registers that hold a free value after a reset applied to a running machine (R602). -/
inductive PsrName where
  | cpsr | fiq | irq | svc | abt | und
  deriving DecidableEq, Repr

/-- The points at which the spec leaves a value open and the machine goes on (spec/93_implementation_defined.md
section 2, V1 to V10). -/
inductive FreeTag where
  /-- V1: the reserved bits 27:8 and 5 of a PSR read by MRS. -/
  | psrReserved
  /-- V2: C after MULS, MLAS and the long multiplies with S. -/
  | multiplyC
  /-- V2: V after the long multiplies with S. -/
  | multiplyV
  /-- V3 and V4: the value stored for the base register by a store that also writes it back. -/
  | storedBase
  /-- V5: the register loaded by LDRH or LDRSH from an odd address. -/
  | oddHalfword
  /-- V6: whether the register of an earlier transfer of an aborted LDM was overwritten. -/
  | abortedLoad (r : PhysReg)
  /-- V7: a banked register read straight after a user-bank LDM. -/
  | bankedRead (p : Port) (r : PhysReg)
  /-- V8: the bits of R14 that are not address bits, written by BL in a 26-bit mode. -/
  | linkBits
  /-- V9: a general register after a reset applied to a running machine. -/
  | resetRegister (r : PhysReg)
  /-- V9: a status register after a reset applied to a running machine. -/
  | resetPsr (p : PsrName)
  /-- V10: whether a byte that the abandoned instruction would have stored was stored. -/
  | resetByte (addr : Nat)
  /-- Whether the Prefetch Unit asked for the instruction at the PC speculatively (P7; log 16). -/
  | speculativeFetch
  deriving DecidableEq, Repr

/-- A free word: drawn afresh at each step (the first argument is the number of the step) for each point. -/
opaque Config.freeWord : Nat → FreeTag → Word

/-- A free bit, drawn as `Config.freeWord` is. -/
opaque Config.freeBit : Nat → FreeTag → Bool

end Sys2Proof
end

