-- ==== Sys2Proof/Syntax.lean ====
section
/-! DEFINITION. The instructions of ARM8: one constructor per row of spec/opcode_table.json, in the table's order, the
undefined classes A to E among them (spec/30_encoding.md R162, R180). A field the spec calls ignored (Rn of MOV, MVN and
MUL, Rd of the tests, R165) is kept as an operand, so that an encoding loses no bit. A constructor of an undefined row
holds bits 27:0 of its word. IMB and IMBRange are the SWI words with comment 0xF00000 and 0xF00001 (R179). -/

namespace Sys2Proof

/-- The fifteen conditions (spec/40_conditional_execution.md R221); the code 1111 is reserved and is no condition
(R224). -/
inductive Cond where
  | eq | ne | cs | cc | mi | pl | vs | vc | hi | ls | ge | lt | gt | le | al
  deriving DecidableEq, Repr

/-- The four shift types of an operand (spec/30_encoding.md R168). -/
inductive ShiftType where
  | lsl | lsr | asr | ror
  deriving DecidableEq, Repr

/-- The field mask of MSR: which bytes of the PSR are written (R303). -/
structure FieldMask where
  flags : Bool
  status : Bool
  extension : Bool
  control : Bool
  deriving DecidableEq, Repr

/-- An instruction of ARM8. `c` is its condition, `sb` its S bit, `up` its U bit, `wb` its W bit, `pre` its P bit. -/
inductive Instr where
  -- Branch
  /-- B: Branch (R241). -/
  | b (c : Cond) (offset : BitVec 24)
  /-- BL: Branch (R242). -/
  | bl (c : Cond) (offset : BitVec 24)
  -- Data processing
  /-- AND: Data Processing, immediate operand (R267). -/
  | andImm (c : Cond) (sb : Bool) (rn rd : RegNo) (rotate : BitVec 4) (imm : BitVec 8)
  /-- AND: Data Processing, register operand, immediate shift (R267). -/
  | andShiftImm (c : Cond) (sb : Bool) (rn rd : RegNo) (amount : BitVec 5) (ty : ShiftType) (rm : RegNo)
  /-- AND: Data Processing, register operand, register shift (R267). -/
  | andShiftReg (c : Cond) (sb : Bool) (rn rd rs : RegNo) (ty : ShiftType) (rm : RegNo)
  /-- EOR: Data Processing, immediate operand (R268). -/
  | eorImm (c : Cond) (sb : Bool) (rn rd : RegNo) (rotate : BitVec 4) (imm : BitVec 8)
  /-- EOR: Data Processing, register operand, immediate shift (R268). -/
  | eorShiftImm (c : Cond) (sb : Bool) (rn rd : RegNo) (amount : BitVec 5) (ty : ShiftType) (rm : RegNo)
  /-- EOR: Data Processing, register operand, register shift (R268). -/
  | eorShiftReg (c : Cond) (sb : Bool) (rn rd rs : RegNo) (ty : ShiftType) (rm : RegNo)
  /-- SUB: Data Processing, immediate operand (R269). -/
  | subImm (c : Cond) (sb : Bool) (rn rd : RegNo) (rotate : BitVec 4) (imm : BitVec 8)
  /-- SUB: Data Processing, register operand, immediate shift (R269). -/
  | subShiftImm (c : Cond) (sb : Bool) (rn rd : RegNo) (amount : BitVec 5) (ty : ShiftType) (rm : RegNo)
  /-- SUB: Data Processing, register operand, register shift (R269). -/
  | subShiftReg (c : Cond) (sb : Bool) (rn rd rs : RegNo) (ty : ShiftType) (rm : RegNo)
  /-- RSB: Data Processing, immediate operand (R270). -/
  | rsbImm (c : Cond) (sb : Bool) (rn rd : RegNo) (rotate : BitVec 4) (imm : BitVec 8)
  /-- RSB: Data Processing, register operand, immediate shift (R270). -/
  | rsbShiftImm (c : Cond) (sb : Bool) (rn rd : RegNo) (amount : BitVec 5) (ty : ShiftType) (rm : RegNo)
  /-- RSB: Data Processing, register operand, register shift (R270). -/
  | rsbShiftReg (c : Cond) (sb : Bool) (rn rd rs : RegNo) (ty : ShiftType) (rm : RegNo)
  /-- ADD: Data Processing, immediate operand (R271). -/
  | addImm (c : Cond) (sb : Bool) (rn rd : RegNo) (rotate : BitVec 4) (imm : BitVec 8)
  /-- ADD: Data Processing, register operand, immediate shift (R271). -/
  | addShiftImm (c : Cond) (sb : Bool) (rn rd : RegNo) (amount : BitVec 5) (ty : ShiftType) (rm : RegNo)
  /-- ADD: Data Processing, register operand, register shift (R271). -/
  | addShiftReg (c : Cond) (sb : Bool) (rn rd rs : RegNo) (ty : ShiftType) (rm : RegNo)
  /-- ADC: Data Processing, immediate operand (R272). -/
  | adcImm (c : Cond) (sb : Bool) (rn rd : RegNo) (rotate : BitVec 4) (imm : BitVec 8)
  /-- ADC: Data Processing, register operand, immediate shift (R272). -/
  | adcShiftImm (c : Cond) (sb : Bool) (rn rd : RegNo) (amount : BitVec 5) (ty : ShiftType) (rm : RegNo)
  /-- ADC: Data Processing, register operand, register shift (R272). -/
  | adcShiftReg (c : Cond) (sb : Bool) (rn rd rs : RegNo) (ty : ShiftType) (rm : RegNo)
  /-- SBC: Data Processing, immediate operand (R273). -/
  | sbcImm (c : Cond) (sb : Bool) (rn rd : RegNo) (rotate : BitVec 4) (imm : BitVec 8)
  /-- SBC: Data Processing, register operand, immediate shift (R273). -/
  | sbcShiftImm (c : Cond) (sb : Bool) (rn rd : RegNo) (amount : BitVec 5) (ty : ShiftType) (rm : RegNo)
  /-- SBC: Data Processing, register operand, register shift (R273). -/
  | sbcShiftReg (c : Cond) (sb : Bool) (rn rd rs : RegNo) (ty : ShiftType) (rm : RegNo)
  /-- RSC: Data Processing, immediate operand (R274). -/
  | rscImm (c : Cond) (sb : Bool) (rn rd : RegNo) (rotate : BitVec 4) (imm : BitVec 8)
  /-- RSC: Data Processing, register operand, immediate shift (R274). -/
  | rscShiftImm (c : Cond) (sb : Bool) (rn rd : RegNo) (amount : BitVec 5) (ty : ShiftType) (rm : RegNo)
  /-- RSC: Data Processing, register operand, register shift (R274). -/
  | rscShiftReg (c : Cond) (sb : Bool) (rn rd rs : RegNo) (ty : ShiftType) (rm : RegNo)
  /-- TST: Data Processing, immediate operand (R275). -/
  | tstImm (c : Cond) (rn rd : RegNo) (rotate : BitVec 4) (imm : BitVec 8)
  /-- TST: Data Processing, register operand, immediate shift (R275). -/
  | tstShiftImm (c : Cond) (rn rd : RegNo) (amount : BitVec 5) (ty : ShiftType) (rm : RegNo)
  /-- TST: Data Processing, register operand, register shift (R275). -/
  | tstShiftReg (c : Cond) (rn rd rs : RegNo) (ty : ShiftType) (rm : RegNo)
  /-- TEQ: Data Processing, immediate operand (R276). -/
  | teqImm (c : Cond) (rn rd : RegNo) (rotate : BitVec 4) (imm : BitVec 8)
  /-- TEQ: Data Processing, register operand, immediate shift (R276). -/
  | teqShiftImm (c : Cond) (rn rd : RegNo) (amount : BitVec 5) (ty : ShiftType) (rm : RegNo)
  /-- TEQ: Data Processing, register operand, register shift (R276). -/
  | teqShiftReg (c : Cond) (rn rd rs : RegNo) (ty : ShiftType) (rm : RegNo)
  /-- CMP: Data Processing, immediate operand (R277). -/
  | cmpImm (c : Cond) (rn rd : RegNo) (rotate : BitVec 4) (imm : BitVec 8)
  /-- CMP: Data Processing, register operand, immediate shift (R277). -/
  | cmpShiftImm (c : Cond) (rn rd : RegNo) (amount : BitVec 5) (ty : ShiftType) (rm : RegNo)
  /-- CMP: Data Processing, register operand, register shift (R277). -/
  | cmpShiftReg (c : Cond) (rn rd rs : RegNo) (ty : ShiftType) (rm : RegNo)
  /-- CMN: Data Processing, immediate operand (R278). -/
  | cmnImm (c : Cond) (rn rd : RegNo) (rotate : BitVec 4) (imm : BitVec 8)
  /-- CMN: Data Processing, register operand, immediate shift (R278). -/
  | cmnShiftImm (c : Cond) (rn rd : RegNo) (amount : BitVec 5) (ty : ShiftType) (rm : RegNo)
  /-- CMN: Data Processing, register operand, register shift (R278). -/
  | cmnShiftReg (c : Cond) (rn rd rs : RegNo) (ty : ShiftType) (rm : RegNo)
  /-- ORR: Data Processing, immediate operand (R279). -/
  | orrImm (c : Cond) (sb : Bool) (rn rd : RegNo) (rotate : BitVec 4) (imm : BitVec 8)
  /-- ORR: Data Processing, register operand, immediate shift (R279). -/
  | orrShiftImm (c : Cond) (sb : Bool) (rn rd : RegNo) (amount : BitVec 5) (ty : ShiftType) (rm : RegNo)
  /-- ORR: Data Processing, register operand, register shift (R279). -/
  | orrShiftReg (c : Cond) (sb : Bool) (rn rd rs : RegNo) (ty : ShiftType) (rm : RegNo)
  /-- MOV: Data Processing, immediate operand (R280). -/
  | movImm (c : Cond) (sb : Bool) (rn rd : RegNo) (rotate : BitVec 4) (imm : BitVec 8)
  /-- MOV: Data Processing, register operand, immediate shift (R280). -/
  | movShiftImm (c : Cond) (sb : Bool) (rn rd : RegNo) (amount : BitVec 5) (ty : ShiftType) (rm : RegNo)
  /-- MOV: Data Processing, register operand, register shift (R280). -/
  | movShiftReg (c : Cond) (sb : Bool) (rn rd rs : RegNo) (ty : ShiftType) (rm : RegNo)
  /-- BIC: Data Processing, immediate operand (R281). -/
  | bicImm (c : Cond) (sb : Bool) (rn rd : RegNo) (rotate : BitVec 4) (imm : BitVec 8)
  /-- BIC: Data Processing, register operand, immediate shift (R281). -/
  | bicShiftImm (c : Cond) (sb : Bool) (rn rd : RegNo) (amount : BitVec 5) (ty : ShiftType) (rm : RegNo)
  /-- BIC: Data Processing, register operand, register shift (R281). -/
  | bicShiftReg (c : Cond) (sb : Bool) (rn rd rs : RegNo) (ty : ShiftType) (rm : RegNo)
  /-- MVN: Data Processing, immediate operand (R282). -/
  | mvnImm (c : Cond) (sb : Bool) (rn rd : RegNo) (rotate : BitVec 4) (imm : BitVec 8)
  /-- MVN: Data Processing, register operand, immediate shift (R282). -/
  | mvnShiftImm (c : Cond) (sb : Bool) (rn rd : RegNo) (amount : BitVec 5) (ty : ShiftType) (rm : RegNo)
  /-- MVN: Data Processing, register operand, register shift (R282). -/
  | mvnShiftReg (c : Cond) (sb : Bool) (rn rd rs : RegNo) (ty : ShiftType) (rm : RegNo)
  -- PSR transfer
  /-- MRS: PSR Transfer (CPSR to register) (R301). -/
  | mrsCpsr (c : Cond) (rd : RegNo)
  /-- MRS: PSR Transfer (SPSR to register) (R302). -/
  | mrsSpsr (c : Cond) (rd : RegNo)
  /-- MSR: PSR Transfer (register to CPSR) (R304). -/
  | msrCpsrReg (c : Cond) (mask : FieldMask) (rm : RegNo)
  /-- MSR: PSR Transfer (immediate to CPSR) (R304). -/
  | msrCpsrImm (c : Cond) (mask : FieldMask) (rotate : BitVec 4) (imm : BitVec 8)
  /-- MSR: PSR Transfer (register to SPSR) (R305). -/
  | msrSpsrReg (c : Cond) (mask : FieldMask) (rm : RegNo)
  /-- MSR: PSR Transfer (immediate to SPSR) (R305). -/
  | msrSpsrImm (c : Cond) (mask : FieldMask) (rotate : BitVec 4) (imm : BitVec 8)
  -- Multiply
  /-- MUL: Multiply (R321). -/
  | mul (c : Cond) (sb : Bool) (rd rn rs rm : RegNo)
  /-- MLA: Multiply (R322). -/
  | mla (c : Cond) (sb : Bool) (rd rn rs rm : RegNo)
  /-- UMULL: Multiply Long (R327). -/
  | umull (c : Cond) (sb : Bool) (rdHi rdLo rs rm : RegNo)
  /-- UMLAL: Multiply Long (R327). -/
  | umlal (c : Cond) (sb : Bool) (rdHi rdLo rs rm : RegNo)
  /-- SMULL: Multiply Long (R327). -/
  | smull (c : Cond) (sb : Bool) (rdHi rdLo rs rm : RegNo)
  /-- SMLAL: Multiply Long (R327). -/
  | smlal (c : Cond) (sb : Bool) (rdHi rdLo rs rm : RegNo)
  -- Single data transfer
  /-- LDR: Single Data Transfer, immediate offset, pre-indexed (R343). -/
  | ldrImmPre (c : Cond) (up wb : Bool) (rn rd : RegNo) (offset : BitVec 12)
  /-- LDR: Single Data Transfer, immediate offset, post-indexed (R343). -/
  | ldrImmPost (c : Cond) (up : Bool) (rn rd : RegNo) (offset : BitVec 12)
  /-- LDRT: Single Data Transfer, immediate offset, post-indexed, W = 1 (R347). -/
  | ldrtImm (c : Cond) (up : Bool) (rn rd : RegNo) (offset : BitVec 12)
  /-- LDR: Single Data Transfer, register offset, pre-indexed (R343). -/
  | ldrRegPre (c : Cond) (up wb : Bool) (rn rd : RegNo) (amount : BitVec 5) (ty : ShiftType) (rm : RegNo)
  /-- LDR: Single Data Transfer, register offset, post-indexed (R343). -/
  | ldrRegPost (c : Cond) (up : Bool) (rn rd : RegNo) (amount : BitVec 5) (ty : ShiftType) (rm : RegNo)
  /-- LDRT: Single Data Transfer, register offset, post-indexed, W = 1 (R347). -/
  | ldrtReg (c : Cond) (up : Bool) (rn rd : RegNo) (amount : BitVec 5) (ty : ShiftType) (rm : RegNo)
  /-- LDRB: Single Data Transfer, immediate offset, pre-indexed (R344). -/
  | ldrbImmPre (c : Cond) (up wb : Bool) (rn rd : RegNo) (offset : BitVec 12)
  /-- LDRB: Single Data Transfer, immediate offset, post-indexed (R344). -/
  | ldrbImmPost (c : Cond) (up : Bool) (rn rd : RegNo) (offset : BitVec 12)
  /-- LDRBT: Single Data Transfer, immediate offset, post-indexed, W = 1 (R347). -/
  | ldrbtImm (c : Cond) (up : Bool) (rn rd : RegNo) (offset : BitVec 12)
  /-- LDRB: Single Data Transfer, register offset, pre-indexed (R344). -/
  | ldrbRegPre (c : Cond) (up wb : Bool) (rn rd : RegNo) (amount : BitVec 5) (ty : ShiftType) (rm : RegNo)
  /-- LDRB: Single Data Transfer, register offset, post-indexed (R344). -/
  | ldrbRegPost (c : Cond) (up : Bool) (rn rd : RegNo) (amount : BitVec 5) (ty : ShiftType) (rm : RegNo)
  /-- LDRBT: Single Data Transfer, register offset, post-indexed, W = 1 (R347). -/
  | ldrbtReg (c : Cond) (up : Bool) (rn rd : RegNo) (amount : BitVec 5) (ty : ShiftType) (rm : RegNo)
  /-- STR: Single Data Transfer, immediate offset, pre-indexed (R345). -/
  | strImmPre (c : Cond) (up wb : Bool) (rn rd : RegNo) (offset : BitVec 12)
  /-- STR: Single Data Transfer, immediate offset, post-indexed (R345). -/
  | strImmPost (c : Cond) (up : Bool) (rn rd : RegNo) (offset : BitVec 12)
  /-- STRT: Single Data Transfer, immediate offset, post-indexed, W = 1 (R347). -/
  | strtImm (c : Cond) (up : Bool) (rn rd : RegNo) (offset : BitVec 12)
  /-- STR: Single Data Transfer, register offset, pre-indexed (R345). -/
  | strRegPre (c : Cond) (up wb : Bool) (rn rd : RegNo) (amount : BitVec 5) (ty : ShiftType) (rm : RegNo)
  /-- STR: Single Data Transfer, register offset, post-indexed (R345). -/
  | strRegPost (c : Cond) (up : Bool) (rn rd : RegNo) (amount : BitVec 5) (ty : ShiftType) (rm : RegNo)
  /-- STRT: Single Data Transfer, register offset, post-indexed, W = 1 (R347). -/
  | strtReg (c : Cond) (up : Bool) (rn rd : RegNo) (amount : BitVec 5) (ty : ShiftType) (rm : RegNo)
  /-- STRB: Single Data Transfer, immediate offset, pre-indexed (R346). -/
  | strbImmPre (c : Cond) (up wb : Bool) (rn rd : RegNo) (offset : BitVec 12)
  /-- STRB: Single Data Transfer, immediate offset, post-indexed (R346). -/
  | strbImmPost (c : Cond) (up : Bool) (rn rd : RegNo) (offset : BitVec 12)
  /-- STRBT: Single Data Transfer, immediate offset, post-indexed, W = 1 (R347). -/
  | strbtImm (c : Cond) (up : Bool) (rn rd : RegNo) (offset : BitVec 12)
  /-- STRB: Single Data Transfer, register offset, pre-indexed (R346). -/
  | strbRegPre (c : Cond) (up wb : Bool) (rn rd : RegNo) (amount : BitVec 5) (ty : ShiftType) (rm : RegNo)
  /-- STRB: Single Data Transfer, register offset, post-indexed (R346). -/
  | strbRegPost (c : Cond) (up : Bool) (rn rd : RegNo) (amount : BitVec 5) (ty : ShiftType) (rm : RegNo)
  /-- STRBT: Single Data Transfer, register offset, post-indexed, W = 1 (R347). -/
  | strbtReg (c : Cond) (up : Bool) (rn rd : RegNo) (amount : BitVec 5) (ty : ShiftType) (rm : RegNo)
  -- Halfword and signed transfer
  /-- LDRH: Halfword Data Transfer, register offset, pre-indexed (R373). -/
  | ldrhRegPre (c : Cond) (up wb : Bool) (rn rd rm : RegNo)
  /-- LDRH: Halfword Data Transfer, register offset, post-indexed (R373). -/
  | ldrhRegPost (c : Cond) (up : Bool) (rn rd rm : RegNo)
  /-- LDRH: Halfword Data Transfer, immediate offset, pre-indexed (R373). -/
  | ldrhImmPre (c : Cond) (up wb : Bool) (rn rd : RegNo) (offset : BitVec 8)
  /-- LDRH: Halfword Data Transfer, immediate offset, post-indexed (R373). -/
  | ldrhImmPost (c : Cond) (up : Bool) (rn rd : RegNo) (offset : BitVec 8)
  /-- LDRSB: Halfword Data Transfer, register offset, pre-indexed (R374). -/
  | ldrsbRegPre (c : Cond) (up wb : Bool) (rn rd rm : RegNo)
  /-- LDRSB: Halfword Data Transfer, register offset, post-indexed (R374). -/
  | ldrsbRegPost (c : Cond) (up : Bool) (rn rd rm : RegNo)
  /-- LDRSB: Halfword Data Transfer, immediate offset, pre-indexed (R374). -/
  | ldrsbImmPre (c : Cond) (up wb : Bool) (rn rd : RegNo) (offset : BitVec 8)
  /-- LDRSB: Halfword Data Transfer, immediate offset, post-indexed (R374). -/
  | ldrsbImmPost (c : Cond) (up : Bool) (rn rd : RegNo) (offset : BitVec 8)
  /-- LDRSH: Halfword Data Transfer, register offset, pre-indexed (R375). -/
  | ldrshRegPre (c : Cond) (up wb : Bool) (rn rd rm : RegNo)
  /-- LDRSH: Halfword Data Transfer, register offset, post-indexed (R375). -/
  | ldrshRegPost (c : Cond) (up : Bool) (rn rd rm : RegNo)
  /-- LDRSH: Halfword Data Transfer, immediate offset, pre-indexed (R375). -/
  | ldrshImmPre (c : Cond) (up wb : Bool) (rn rd : RegNo) (offset : BitVec 8)
  /-- LDRSH: Halfword Data Transfer, immediate offset, post-indexed (R375). -/
  | ldrshImmPost (c : Cond) (up : Bool) (rn rd : RegNo) (offset : BitVec 8)
  /-- STRH: Halfword Data Transfer, register offset, pre-indexed (R376). -/
  | strhRegPre (c : Cond) (up wb : Bool) (rn rd rm : RegNo)
  /-- STRH: Halfword Data Transfer, register offset, post-indexed (R376). -/
  | strhRegPost (c : Cond) (up : Bool) (rn rd rm : RegNo)
  /-- STRH: Halfword Data Transfer, immediate offset, pre-indexed (R376). -/
  | strhImmPre (c : Cond) (up wb : Bool) (rn rd : RegNo) (offset : BitVec 8)
  /-- STRH: Halfword Data Transfer, immediate offset, post-indexed (R376). -/
  | strhImmPost (c : Cond) (up : Bool) (rn rd : RegNo) (offset : BitVec 8)
  -- Block data transfer
  /-- LDM: Block Data Transfer (R396). -/
  | ldm (c : Cond) (pre up wb : Bool) (rn : RegNo) (list : BitVec 16)
  /-- LDM: Block Data Transfer, S = 1, R15 in list (R401). -/
  | ldmPc (c : Cond) (pre up wb : Bool) (rn : RegNo) (list : BitVec 15)
  /-- LDM: Block Data Transfer, S = 1, R15 not in list (R403). -/
  | ldmUser (c : Cond) (pre up wb : Bool) (rn : RegNo) (list : BitVec 15)
  /-- STM: Block Data Transfer (R397). -/
  | stm (c : Cond) (pre up wb : Bool) (rn : RegNo) (list : BitVec 16)
  /-- STM: Block Data Transfer, S = 1 (R402). -/
  | stmUser (c : Cond) (pre up wb : Bool) (rn : RegNo) (list : BitVec 16)
  -- Swap
  /-- SWP: Single Data Swap (R422). -/
  | swp (c : Cond) (rn rd rm : RegNo)
  /-- SWPB: Single Data Swap (R423). -/
  | swpb (c : Cond) (rn rd rm : RegNo)
  -- Software interrupt
  /-- SWI: Software Interrupt (R428). -/
  | swi (c : Cond) (comment : BitVec 24)
  /-- IMB: Software Interrupt, comment = 0xF00000 (R430). -/
  | imb (c : Cond)
  /-- IMBRange: Software Interrupt, comment = 0xF00001 (R431). -/
  | imbRange (c : Cond)
  -- Coprocessor
  /-- CDP: Coprocessor Data Operation (R454). -/
  | cdp (c : Cond) (opc : BitVec 4) (crn crd : RegNo) (cp : BitVec 4) (info : BitVec 3) (crm : RegNo)
  /-- LDC: Coprocessor Data Transfer (R455). -/
  | ldc (c : Cond) (pre up long wb : Bool) (rn crd : RegNo) (cp : BitVec 4) (offset : BitVec 8)
  /-- STC: Coprocessor Data Transfer (R455). -/
  | stc (c : Cond) (pre up long wb : Bool) (rn crd : RegNo) (cp : BitVec 4) (offset : BitVec 8)
  /-- MRC: Coprocessor Register Transfer (R457). -/
  | mrc (c : Cond) (opc : BitVec 3) (crn rd : RegNo) (cp : BitVec 4) (info : BitVec 3) (crm : RegNo)
  /-- MCR: Coprocessor Register Transfer (R460). -/
  | mcr (c : Cond) (opc : BitVec 3) (crn rd : RegNo) (cp : BitVec 4) (info : BitVec 3) (crm : RegNo)
  -- Undefined instruction classes
  /-- UNDEFINED_A: Undefined instruction trap, Table 4-6 class A (R470). -/
  | undefinedA (c : Cond) (bits : BitVec 28)
  /-- UNDEFINED_B: Undefined instruction trap, Table 4-6 class B (R470). -/
  | undefinedB1 (c : Cond) (bits : BitVec 28)
  /-- UNDEFINED_B: Undefined instruction trap, Table 4-6 class B (R470). -/
  | undefinedB2 (c : Cond) (bits : BitVec 28)
  /-- UNDEFINED_B: Undefined instruction trap, Table 4-6 class B (R470). -/
  | undefinedB3 (c : Cond) (bits : BitVec 28)
  /-- UNDEFINED_B: Undefined instruction trap, Table 4-6 class B (R470). -/
  | undefinedB4 (c : Cond) (bits : BitVec 28)
  /-- UNDEFINED_B: Undefined instruction trap, Table 4-6 class B (R470). -/
  | undefinedB5 (c : Cond) (bits : BitVec 28)
  /-- UNDEFINED_C: Undefined instruction trap, Table 4-6 class C (R470). -/
  | undefinedC (c : Cond) (bits : BitVec 28)
  /-- UNDEFINED_D: Undefined instruction trap, Table 4-6 class D (R470). -/
  | undefinedD1 (c : Cond) (bits : BitVec 28)
  /-- UNDEFINED_D: Undefined instruction trap, Table 4-6 class D (R470). -/
  | undefinedD2 (c : Cond) (bits : BitVec 28)
  /-- UNDEFINED_D: Undefined instruction trap, Table 4-6 class D (R470). -/
  | undefinedD3 (c : Cond) (bits : BitVec 28)
  /-- UNDEFINED_E: Undefined instruction trap, Table 4-6 class E (R470). -/
  | undefinedE1 (c : Cond) (bits : BitVec 28)
  /-- UNDEFINED_E: Undefined instruction trap, Table 4-6 class E (R470). -/
  | undefinedE2 (c : Cond) (bits : BitVec 28)
  /-- UNDEFINED_E: Undefined instruction trap, Table 4-6 class E (R470). -/
  | undefinedE3 (c : Cond) (bits : BitVec 28)
  /-- UNDEFINED_E: Undefined instruction trap, Table 4-6 class E (R470). -/
  | undefinedE4 (c : Cond) (bits : BitVec 28)
  deriving DecidableEq, Repr

/-- The condition field of an instruction (R161). -/
def Instr.cond : Instr → Cond
  | .b c _ => c
  | .bl c _ => c
  | .andImm c _ _ _ _ _ => c
  | .andShiftImm c _ _ _ _ _ _ => c
  | .andShiftReg c _ _ _ _ _ _ => c
  | .eorImm c _ _ _ _ _ => c
  | .eorShiftImm c _ _ _ _ _ _ => c
  | .eorShiftReg c _ _ _ _ _ _ => c
  | .subImm c _ _ _ _ _ => c
  | .subShiftImm c _ _ _ _ _ _ => c
  | .subShiftReg c _ _ _ _ _ _ => c
  | .rsbImm c _ _ _ _ _ => c
  | .rsbShiftImm c _ _ _ _ _ _ => c
  | .rsbShiftReg c _ _ _ _ _ _ => c
  | .addImm c _ _ _ _ _ => c
  | .addShiftImm c _ _ _ _ _ _ => c
  | .addShiftReg c _ _ _ _ _ _ => c
  | .adcImm c _ _ _ _ _ => c
  | .adcShiftImm c _ _ _ _ _ _ => c
  | .adcShiftReg c _ _ _ _ _ _ => c
  | .sbcImm c _ _ _ _ _ => c
  | .sbcShiftImm c _ _ _ _ _ _ => c
  | .sbcShiftReg c _ _ _ _ _ _ => c
  | .rscImm c _ _ _ _ _ => c
  | .rscShiftImm c _ _ _ _ _ _ => c
  | .rscShiftReg c _ _ _ _ _ _ => c
  | .tstImm c _ _ _ _ => c
  | .tstShiftImm c _ _ _ _ _ => c
  | .tstShiftReg c _ _ _ _ _ => c
  | .teqImm c _ _ _ _ => c
  | .teqShiftImm c _ _ _ _ _ => c
  | .teqShiftReg c _ _ _ _ _ => c
  | .cmpImm c _ _ _ _ => c
  | .cmpShiftImm c _ _ _ _ _ => c
  | .cmpShiftReg c _ _ _ _ _ => c
  | .cmnImm c _ _ _ _ => c
  | .cmnShiftImm c _ _ _ _ _ => c
  | .cmnShiftReg c _ _ _ _ _ => c
  | .orrImm c _ _ _ _ _ => c
  | .orrShiftImm c _ _ _ _ _ _ => c
  | .orrShiftReg c _ _ _ _ _ _ => c
  | .movImm c _ _ _ _ _ => c
  | .movShiftImm c _ _ _ _ _ _ => c
  | .movShiftReg c _ _ _ _ _ _ => c
  | .bicImm c _ _ _ _ _ => c
  | .bicShiftImm c _ _ _ _ _ _ => c
  | .bicShiftReg c _ _ _ _ _ _ => c
  | .mvnImm c _ _ _ _ _ => c
  | .mvnShiftImm c _ _ _ _ _ _ => c
  | .mvnShiftReg c _ _ _ _ _ _ => c
  | .mrsCpsr c _ => c
  | .mrsSpsr c _ => c
  | .msrCpsrReg c _ _ => c
  | .msrCpsrImm c _ _ _ => c
  | .msrSpsrReg c _ _ => c
  | .msrSpsrImm c _ _ _ => c
  | .mul c _ _ _ _ _ => c
  | .mla c _ _ _ _ _ => c
  | .umull c _ _ _ _ _ => c
  | .umlal c _ _ _ _ _ => c
  | .smull c _ _ _ _ _ => c
  | .smlal c _ _ _ _ _ => c
  | .ldrImmPre c _ _ _ _ _ => c
  | .ldrImmPost c _ _ _ _ => c
  | .ldrtImm c _ _ _ _ => c
  | .ldrRegPre c _ _ _ _ _ _ _ => c
  | .ldrRegPost c _ _ _ _ _ _ => c
  | .ldrtReg c _ _ _ _ _ _ => c
  | .ldrbImmPre c _ _ _ _ _ => c
  | .ldrbImmPost c _ _ _ _ => c
  | .ldrbtImm c _ _ _ _ => c
  | .ldrbRegPre c _ _ _ _ _ _ _ => c
  | .ldrbRegPost c _ _ _ _ _ _ => c
  | .ldrbtReg c _ _ _ _ _ _ => c
  | .strImmPre c _ _ _ _ _ => c
  | .strImmPost c _ _ _ _ => c
  | .strtImm c _ _ _ _ => c
  | .strRegPre c _ _ _ _ _ _ _ => c
  | .strRegPost c _ _ _ _ _ _ => c
  | .strtReg c _ _ _ _ _ _ => c
  | .strbImmPre c _ _ _ _ _ => c
  | .strbImmPost c _ _ _ _ => c
  | .strbtImm c _ _ _ _ => c
  | .strbRegPre c _ _ _ _ _ _ _ => c
  | .strbRegPost c _ _ _ _ _ _ => c
  | .strbtReg c _ _ _ _ _ _ => c
  | .ldrhRegPre c _ _ _ _ _ => c
  | .ldrhRegPost c _ _ _ _ => c
  | .ldrhImmPre c _ _ _ _ _ => c
  | .ldrhImmPost c _ _ _ _ => c
  | .ldrsbRegPre c _ _ _ _ _ => c
  | .ldrsbRegPost c _ _ _ _ => c
  | .ldrsbImmPre c _ _ _ _ _ => c
  | .ldrsbImmPost c _ _ _ _ => c
  | .ldrshRegPre c _ _ _ _ _ => c
  | .ldrshRegPost c _ _ _ _ => c
  | .ldrshImmPre c _ _ _ _ _ => c
  | .ldrshImmPost c _ _ _ _ => c
  | .strhRegPre c _ _ _ _ _ => c
  | .strhRegPost c _ _ _ _ => c
  | .strhImmPre c _ _ _ _ _ => c
  | .strhImmPost c _ _ _ _ => c
  | .ldm c _ _ _ _ _ => c
  | .ldmPc c _ _ _ _ _ => c
  | .ldmUser c _ _ _ _ _ => c
  | .stm c _ _ _ _ _ => c
  | .stmUser c _ _ _ _ _ => c
  | .swp c _ _ _ => c
  | .swpb c _ _ _ => c
  | .swi c _ => c
  | .imb c => c
  | .imbRange c => c
  | .cdp c _ _ _ _ _ _ => c
  | .ldc c _ _ _ _ _ _ _ _ => c
  | .stc c _ _ _ _ _ _ _ _ => c
  | .mrc c _ _ _ _ _ _ => c
  | .mcr c _ _ _ _ _ _ => c
  | .undefinedA c _ => c
  | .undefinedB1 c _ => c
  | .undefinedB2 c _ => c
  | .undefinedB3 c _ => c
  | .undefinedB4 c _ => c
  | .undefinedB5 c _ => c
  | .undefinedC c _ => c
  | .undefinedD1 c _ => c
  | .undefinedD2 c _ => c
  | .undefinedD3 c _ => c
  | .undefinedE1 c _ => c
  | .undefinedE2 c _ => c
  | .undefinedE3 c _ => c
  | .undefinedE4 c _ => c

/-- The fixed fields of a word that matches no row of the table: another value in them is a reserved encoding (R165,
R174, R181). -/
inductive ReservedField where
  /-- Bits 19:16 or 11:0 of MRS, bits 15:12 or 11:8 of MSR (U7). -/
  | psrTransfer
  /-- Bits 11:8 of SWP and SWPB (U19). -/
  | swap
  /-- Bits 11:8 of a halfword or signed transfer with a register offset (U19). -/
  | halfword
  deriving DecidableEq, Repr

/-- What a word decodes to (R164, R182, R184). -/
inductive Decoded where
  /-- A row of the table. -/
  | instr (i : Instr)
  /-- A reserved encoding with a condition field. -/
  | reserved (c : Cond) (why : ReservedField)
  /-- The condition field is 1111 (U1). -/
  | reservedCondition
  deriving DecidableEq, Repr

end Sys2Proof
end

