-- ==== Sys2Proof/WellFormed.lean ====
section
/-! DEFINITION. Which terms of `Instr` an instruction word stands for. Every field already has the width of its
encoding, so two checks are left: a SWI with the comment of IMB or IMBRange is written as that constructor
(spec/30_encoding.md R179), and the bits of an undefined row lie in that row's pattern (R180, spec/opcode_table.json).
What a family file forbids is not ill-formed: the word exists, and executing it is refused by name. -/

namespace Sys2Proof

/-- The term is what the decoder gives for some word. -/
def Instr.wellFormed : Instr → Bool
  | .swi _ comment => comment != 0xF00000 && comment != 0xF00001
  | .b _ _ => true
  | .bl _ _ => true
  | .andImm _ _ _ _ _ _ => true
  | .andShiftImm _ _ _ _ _ _ _ => true
  | .andShiftReg _ _ _ _ _ _ _ => true
  | .eorImm _ _ _ _ _ _ => true
  | .eorShiftImm _ _ _ _ _ _ _ => true
  | .eorShiftReg _ _ _ _ _ _ _ => true
  | .subImm _ _ _ _ _ _ => true
  | .subShiftImm _ _ _ _ _ _ _ => true
  | .subShiftReg _ _ _ _ _ _ _ => true
  | .rsbImm _ _ _ _ _ _ => true
  | .rsbShiftImm _ _ _ _ _ _ _ => true
  | .rsbShiftReg _ _ _ _ _ _ _ => true
  | .addImm _ _ _ _ _ _ => true
  | .addShiftImm _ _ _ _ _ _ _ => true
  | .addShiftReg _ _ _ _ _ _ _ => true
  | .adcImm _ _ _ _ _ _ => true
  | .adcShiftImm _ _ _ _ _ _ _ => true
  | .adcShiftReg _ _ _ _ _ _ _ => true
  | .sbcImm _ _ _ _ _ _ => true
  | .sbcShiftImm _ _ _ _ _ _ _ => true
  | .sbcShiftReg _ _ _ _ _ _ _ => true
  | .rscImm _ _ _ _ _ _ => true
  | .rscShiftImm _ _ _ _ _ _ _ => true
  | .rscShiftReg _ _ _ _ _ _ _ => true
  | .tstImm _ _ _ _ _ => true
  | .tstShiftImm _ _ _ _ _ _ => true
  | .tstShiftReg _ _ _ _ _ _ => true
  | .teqImm _ _ _ _ _ => true
  | .teqShiftImm _ _ _ _ _ _ => true
  | .teqShiftReg _ _ _ _ _ _ => true
  | .cmpImm _ _ _ _ _ => true
  | .cmpShiftImm _ _ _ _ _ _ => true
  | .cmpShiftReg _ _ _ _ _ _ => true
  | .cmnImm _ _ _ _ _ => true
  | .cmnShiftImm _ _ _ _ _ _ => true
  | .cmnShiftReg _ _ _ _ _ _ => true
  | .orrImm _ _ _ _ _ _ => true
  | .orrShiftImm _ _ _ _ _ _ _ => true
  | .orrShiftReg _ _ _ _ _ _ _ => true
  | .movImm _ _ _ _ _ _ => true
  | .movShiftImm _ _ _ _ _ _ _ => true
  | .movShiftReg _ _ _ _ _ _ _ => true
  | .bicImm _ _ _ _ _ _ => true
  | .bicShiftImm _ _ _ _ _ _ _ => true
  | .bicShiftReg _ _ _ _ _ _ _ => true
  | .mvnImm _ _ _ _ _ _ => true
  | .mvnShiftImm _ _ _ _ _ _ _ => true
  | .mvnShiftReg _ _ _ _ _ _ _ => true
  | .mrsCpsr _ _ => true
  | .mrsSpsr _ _ => true
  | .msrCpsrReg _ _ _ => true
  | .msrCpsrImm _ _ _ _ => true
  | .msrSpsrReg _ _ _ => true
  | .msrSpsrImm _ _ _ _ => true
  | .mul _ _ _ _ _ _ => true
  | .mla _ _ _ _ _ _ => true
  | .umull _ _ _ _ _ _ => true
  | .umlal _ _ _ _ _ _ => true
  | .smull _ _ _ _ _ _ => true
  | .smlal _ _ _ _ _ _ => true
  | .ldrImmPre _ _ _ _ _ _ => true
  | .ldrImmPost _ _ _ _ _ => true
  | .ldrtImm _ _ _ _ _ => true
  | .ldrRegPre _ _ _ _ _ _ _ _ => true
  | .ldrRegPost _ _ _ _ _ _ _ => true
  | .ldrtReg _ _ _ _ _ _ _ => true
  | .ldrbImmPre _ _ _ _ _ _ => true
  | .ldrbImmPost _ _ _ _ _ => true
  | .ldrbtImm _ _ _ _ _ => true
  | .ldrbRegPre _ _ _ _ _ _ _ _ => true
  | .ldrbRegPost _ _ _ _ _ _ _ => true
  | .ldrbtReg _ _ _ _ _ _ _ => true
  | .strImmPre _ _ _ _ _ _ => true
  | .strImmPost _ _ _ _ _ => true
  | .strtImm _ _ _ _ _ => true
  | .strRegPre _ _ _ _ _ _ _ _ => true
  | .strRegPost _ _ _ _ _ _ _ => true
  | .strtReg _ _ _ _ _ _ _ => true
  | .strbImmPre _ _ _ _ _ _ => true
  | .strbImmPost _ _ _ _ _ => true
  | .strbtImm _ _ _ _ _ => true
  | .strbRegPre _ _ _ _ _ _ _ _ => true
  | .strbRegPost _ _ _ _ _ _ _ => true
  | .strbtReg _ _ _ _ _ _ _ => true
  | .ldrhRegPre _ _ _ _ _ _ => true
  | .ldrhRegPost _ _ _ _ _ => true
  | .ldrhImmPre _ _ _ _ _ _ => true
  | .ldrhImmPost _ _ _ _ _ => true
  | .ldrsbRegPre _ _ _ _ _ _ => true
  | .ldrsbRegPost _ _ _ _ _ => true
  | .ldrsbImmPre _ _ _ _ _ _ => true
  | .ldrsbImmPost _ _ _ _ _ => true
  | .ldrshRegPre _ _ _ _ _ _ => true
  | .ldrshRegPost _ _ _ _ _ => true
  | .ldrshImmPre _ _ _ _ _ _ => true
  | .ldrshImmPost _ _ _ _ _ => true
  | .strhRegPre _ _ _ _ _ _ => true
  | .strhRegPost _ _ _ _ _ => true
  | .strhImmPre _ _ _ _ _ _ => true
  | .strhImmPost _ _ _ _ _ => true
  | .ldm _ _ _ _ _ _ => true
  | .ldmPc _ _ _ _ _ _ => true
  | .ldmUser _ _ _ _ _ _ => true
  | .stm _ _ _ _ _ _ => true
  | .stmUser _ _ _ _ _ _ => true
  | .swp _ _ _ _ => true
  | .swpb _ _ _ _ => true
  | .imb _ => true
  | .imbRange _ => true
  | .cdp _ _ _ _ _ _ _ => true
  | .ldc _ _ _ _ _ _ _ _ _ => true
  | .stc _ _ _ _ _ _ _ _ _ => true
  | .mrc _ _ _ _ _ _ _ => true
  | .mcr _ _ _ _ _ _ _ => true
  | .undefinedA _ bits => bits &&& 0xe000010 == 0x6000010
  | .undefinedB1 _ bits => bits &&& 0xf900090 == 0x1000080
  | .undefinedB2 _ bits => bits &&& 0xf9000d0 == 0x1000040
  | .undefinedB3 _ bits => bits &&& 0xf9000f0 == 0x1000020
  | .undefinedB4 _ bits => bits &&& 0xf900090 == 0x1000010
  | .undefinedB5 _ bits => bits &&& 0xfb00000 == 0x3000000
  | .undefinedC _ bits => bits &&& 0xfc000f0 == 0x400090
  | .undefinedD1 _ bits => bits &&& 0xf8000f0 == 0x1800090
  | .undefinedD2 _ bits => bits &&& 0xfa000f0 == 0x1200090
  | .undefinedD3 _ bits => bits &&& 0xfb000f0 == 0x1100090
  | .undefinedE1 _ bits => bits &&& 0xf2000d0 == 0x2000d0
  | .undefinedE2 _ bits => bits &&& 0xf2000f0 == 0x2000b0
  | .undefinedE3 _ bits => bits &&& 0xf1000d0 == 0x10000d0
  | .undefinedE4 _ bits => bits &&& 0xf3000d0 == 0xd0

end Sys2Proof
end

