-- ==== Sys2Proof/Decode.lean ====
section
/-! DEFINITION. The decoder (spec/30_encoding.md R164), total on every word, and the encoder, both written from the
field layouts of R162 and R166 to R180. -/

namespace Sys2Proof

/-- Bits `lo + len - 1 : lo` of a word. -/
def field (w : Word) (lo len : Nat) : BitVec len := w.extractLsb' lo len

/-- Bit `k` of a word. -/
def bit (w : Word) (k : Nat) : Bool := w.getLsbD k

/-- A field put into an otherwise empty word with its lowest bit at `lo`. -/
def place {n : Nat} (v : BitVec n) (lo : Nat) : Word := v.setWidth 32 <<< lo

/-- The code of a condition (spec/40_conditional_execution.md R221). -/
def Cond.code : Cond → BitVec 4
  | .eq => 0 | .ne => 1 | .cs => 2 | .cc => 3 | .mi => 4 | .pl => 5 | .vs => 6 | .vc => 7
  | .hi => 8 | .ls => 9 | .ge => 10 | .lt => 11 | .gt => 12 | .le => 13 | .al => 14

/-- The condition of a code; 1111 is reserved (R182, R224). -/
def Cond.ofCode (v : BitVec 4) : Option Cond :=
  match v.getLsbD 3, v.getLsbD 2, v.getLsbD 1, v.getLsbD 0 with
  | false, false, false, false => some .eq
  | false, false, false, true => some .ne
  | false, false, true, false => some .cs
  | false, false, true, true => some .cc
  | false, true, false, false => some .mi
  | false, true, false, true => some .pl
  | false, true, true, false => some .vs
  | false, true, true, true => some .vc
  | true, false, false, false => some .hi
  | true, false, false, true => some .ls
  | true, false, true, false => some .ge
  | true, false, true, true => some .lt
  | true, true, false, false => some .gt
  | true, true, false, true => some .le
  | true, true, true, false => some .al
  | true, true, true, true => none

/-- The code of a shift type (R168). -/
def ShiftType.code : ShiftType → BitVec 2
  | .lsl => 0 | .lsr => 1 | .asr => 2 | .ror => 3

/-- The shift type of a code (R168). -/
def ShiftType.ofCode (v : BitVec 2) : ShiftType :=
  match v.getLsbD 1, v.getLsbD 0 with
  | false, false => .lsl
  | false, true => .lsr
  | true, false => .asr
  | true, true => .ror

/-- The field mask of MSR, bits 19:16 as f s x c (R174). -/
def fieldMask (w : Word) : FieldMask :=
  { flags := bit w 19, status := bit w 18, extension := bit w 17, control := bit w 16 }

/-- The shift type of Operand 2 or of a register offset, bits 6:5 (R168). -/
def shiftField (w : Word) : ShiftType := ShiftType.ofCode (field w 5 2)

/-- Data processing with an immediate operand: the opcode is bits 24:21 (R166, R167, R169). -/
def decodeDpImm (c : Cond) (w : Word) : Instr :=
  let sb := bit w 20
  let rn := field w 16 4
  let rd := field w 12 4
  let rotate := field w 8 4
  let imm := field w 0 8
  match bit w 24, bit w 23, bit w 22, bit w 21 with
  | false, false, false, false => .andImm c sb rn rd rotate imm
  | false, false, false, true => .eorImm c sb rn rd rotate imm
  | false, false, true, false => .subImm c sb rn rd rotate imm
  | false, false, true, true => .rsbImm c sb rn rd rotate imm
  | false, true, false, false => .addImm c sb rn rd rotate imm
  | false, true, false, true => .adcImm c sb rn rd rotate imm
  | false, true, true, false => .sbcImm c sb rn rd rotate imm
  | false, true, true, true => .rscImm c sb rn rd rotate imm
  | true, false, false, false => .tstImm c rn rd rotate imm
  | true, false, false, true => .teqImm c rn rd rotate imm
  | true, false, true, false => .cmpImm c rn rd rotate imm
  | true, false, true, true => .cmnImm c rn rd rotate imm
  | true, true, false, false => .orrImm c sb rn rd rotate imm
  | true, true, false, true => .movImm c sb rn rd rotate imm
  | true, true, true, false => .bicImm c sb rn rd rotate imm
  | true, true, true, true => .mvnImm c sb rn rd rotate imm

/-- Data processing with a register shifted by an amount in the instruction (R166 to R168). -/
def decodeDpShiftImm (c : Cond) (w : Word) : Instr :=
  let sb := bit w 20
  let rn := field w 16 4
  let rd := field w 12 4
  let amount := field w 7 5
  let ty := shiftField w
  let rm := field w 0 4
  match bit w 24, bit w 23, bit w 22, bit w 21 with
  | false, false, false, false => .andShiftImm c sb rn rd amount ty rm
  | false, false, false, true => .eorShiftImm c sb rn rd amount ty rm
  | false, false, true, false => .subShiftImm c sb rn rd amount ty rm
  | false, false, true, true => .rsbShiftImm c sb rn rd amount ty rm
  | false, true, false, false => .addShiftImm c sb rn rd amount ty rm
  | false, true, false, true => .adcShiftImm c sb rn rd amount ty rm
  | false, true, true, false => .sbcShiftImm c sb rn rd amount ty rm
  | false, true, true, true => .rscShiftImm c sb rn rd amount ty rm
  | true, false, false, false => .tstShiftImm c rn rd amount ty rm
  | true, false, false, true => .teqShiftImm c rn rd amount ty rm
  | true, false, true, false => .cmpShiftImm c rn rd amount ty rm
  | true, false, true, true => .cmnShiftImm c rn rd amount ty rm
  | true, true, false, false => .orrShiftImm c sb rn rd amount ty rm
  | true, true, false, true => .movShiftImm c sb rn rd amount ty rm
  | true, true, true, false => .bicShiftImm c sb rn rd amount ty rm
  | true, true, true, true => .mvnShiftImm c sb rn rd amount ty rm

/-- Data processing with a register shifted by a register (R166 to R168). -/
def decodeDpShiftReg (c : Cond) (w : Word) : Instr :=
  let sb := bit w 20
  let rn := field w 16 4
  let rd := field w 12 4
  let rs := field w 8 4
  let ty := shiftField w
  let rm := field w 0 4
  match bit w 24, bit w 23, bit w 22, bit w 21 with
  | false, false, false, false => .andShiftReg c sb rn rd rs ty rm
  | false, false, false, true => .eorShiftReg c sb rn rd rs ty rm
  | false, false, true, false => .subShiftReg c sb rn rd rs ty rm
  | false, false, true, true => .rsbShiftReg c sb rn rd rs ty rm
  | false, true, false, false => .addShiftReg c sb rn rd rs ty rm
  | false, true, false, true => .adcShiftReg c sb rn rd rs ty rm
  | false, true, true, false => .sbcShiftReg c sb rn rd rs ty rm
  | false, true, true, true => .rscShiftReg c sb rn rd rs ty rm
  | true, false, false, false => .tstShiftReg c rn rd rs ty rm
  | true, false, false, true => .teqShiftReg c rn rd rs ty rm
  | true, false, true, false => .cmpShiftReg c rn rd rs ty rm
  | true, false, true, true => .cmnShiftReg c rn rd rs ty rm
  | true, true, false, false => .orrShiftReg c sb rn rd rs ty rm
  | true, true, false, true => .movShiftReg c sb rn rd rs ty rm
  | true, true, true, false => .bicShiftReg c sb rn rd rs ty rm
  | true, true, true, true => .mvnShiftReg c sb rn rd rs ty rm

/-- The word is a test (TST, TEQ, CMP, CMN) without the S bit: PSR transfers and class B (R163, R164). -/
def testWithoutS (w : Word) : Bool := bit w 24 && !bit w 23 && !bit w 20

/-- MRS and the register form of MSR with their "should be" fields checked (R174). -/
def decodePsrReg (c : Cond) (w : Word) : Decoded :=
  if bit w 21 then
    if field w 12 4 = 0xF ∧ field w 8 4 = 0 then
      if bit w 22 then .instr (.msrSpsrReg c (fieldMask w) (field w 0 4))
      else .instr (.msrCpsrReg c (fieldMask w) (field w 0 4))
    else .reserved c .psrTransfer
  else if field w 16 4 = 0xF ∧ field w 8 4 = 0 ∧ field w 0 4 = 0 then
    if bit w 22 then .instr (.mrsSpsr c (field w 12 4)) else .instr (.mrsCpsr c (field w 12 4))
  else .reserved c .psrTransfer

/-- The immediate form of MSR with its "should be" field checked (R174). -/
def decodeMsrImm (c : Cond) (w : Word) : Decoded :=
  if field w 12 4 = 0xF then
    if bit w 22 then .instr (.msrSpsrImm c (fieldMask w) (field w 8 4) (field w 0 8))
    else .instr (.msrCpsrImm c (fieldMask w) (field w 8 4) (field w 0 8))
  else .reserved c .psrTransfer

/-- The words with bits 27:25 = 000 and bits 7:4 = 1001: multiplies, swaps and the classes C and D (R164, R175, R176,
R180). -/
def decodeMultiplySwap (c : Cond) (w : Word) : Decoded :=
  let r16 := field w 16 4
  let r12 := field w 12 4
  let rs := field w 8 4
  let rm := field w 0 4
  if bit w 24 then
    if bit w 23 then .instr (.undefinedD1 c (field w 0 28))
    else if bit w 21 then .instr (.undefinedD2 c (field w 0 28))
    else if bit w 20 then .instr (.undefinedD3 c (field w 0 28))
    else if field w 8 4 = 0 then
      if bit w 22 then .instr (.swpb c r16 r12 rm) else .instr (.swp c r16 r12 rm)
    else .reserved c .swap
  else if bit w 23 then
    match bit w 22, bit w 21 with
    | false, false => .instr (.umull c (bit w 20) r16 r12 rs rm)
    | false, true => .instr (.umlal c (bit w 20) r16 r12 rs rm)
    | true, false => .instr (.smull c (bit w 20) r16 r12 rs rm)
    | true, true => .instr (.smlal c (bit w 20) r16 r12 rs rm)
  else if bit w 22 then .instr (.undefinedC c (field w 0 28))
  else if bit w 21 then .instr (.mla c (bit w 20) r16 r12 rs rm)
  else .instr (.mul c (bit w 20) r16 r12 rs rm)

/-- A halfword or signed transfer with an immediate offset, by P and by S H (R172). -/
def decodeHalfImm (c : Cond) (w : Word) : Instr :=
  let up := bit w 23
  let wb := bit w 21
  let rn := field w 16 4
  let rd := field w 12 4
  let offset := (field w 8 4 ++ field w 0 4 : BitVec 8)
  match bit w 24, bit w 20, bit w 6, bit w 5 with
  | true, true, false, _ => .ldrhImmPre c up wb rn rd offset
  | true, true, true, false => .ldrsbImmPre c up wb rn rd offset
  | true, true, true, true => .ldrshImmPre c up wb rn rd offset
  | true, false, _, _ => .strhImmPre c up wb rn rd offset
  | false, true, false, _ => .ldrhImmPost c up rn rd offset
  | false, true, true, false => .ldrsbImmPost c up rn rd offset
  | false, true, true, true => .ldrshImmPost c up rn rd offset
  | false, false, _, _ => .strhImmPost c up rn rd offset

/-- A halfword or signed transfer with a register offset (R172). -/
def decodeHalfReg (c : Cond) (w : Word) : Instr :=
  let up := bit w 23
  let wb := bit w 21
  let rn := field w 16 4
  let rd := field w 12 4
  let rm := field w 0 4
  match bit w 24, bit w 20, bit w 6, bit w 5 with
  | true, true, false, _ => .ldrhRegPre c up wb rn rd rm
  | true, true, true, false => .ldrsbRegPre c up wb rn rd rm
  | true, true, true, true => .ldrshRegPre c up wb rn rd rm
  | true, false, _, _ => .strhRegPre c up wb rn rd rm
  | false, true, false, _ => .ldrhRegPost c up rn rd rm
  | false, true, true, false => .ldrsbRegPost c up rn rd rm
  | false, true, true, true => .ldrshRegPost c up rn rd rm
  | false, false, _, _ => .strhRegPost c up rn rd rm

/-- The words with bits 27:25 = 000, bits 7 and 4 set and bits 6:5 not 00 (R164, R172, R180). -/
def decodeHalfword (c : Cond) (w : Word) : Decoded :=
  if !bit w 24 && bit w 21 then
    if bit w 6 then .instr (.undefinedE1 c (field w 0 28)) else .instr (.undefinedE2 c (field w 0 28))
  else if !bit w 20 && bit w 6 then
    if bit w 24 then .instr (.undefinedE3 c (field w 0 28)) else .instr (.undefinedE4 c (field w 0 28))
  else if bit w 22 then .instr (decodeHalfImm c w)
  else if field w 8 4 = 0 then .instr (decodeHalfReg c w)
  else .reserved c .halfword

/-- The words with bits 27:25 = 000 (R164). -/
def decodeRegister (c : Cond) (w : Word) : Decoded :=
  match bit w 4, bit w 7 with
  | true, true =>
    if bit w 6 || bit w 5 then decodeHalfword c w else decodeMultiplySwap c w
  | true, false =>
    if testWithoutS w then .instr (.undefinedB4 c (field w 0 28)) else .instr (decodeDpShiftReg c w)
  | false, _ =>
    if testWithoutS w then
      if bit w 7 then .instr (.undefinedB1 c (field w 0 28))
      else if bit w 6 then .instr (.undefinedB2 c (field w 0 28))
      else if bit w 5 then .instr (.undefinedB3 c (field w 0 28))
      else decodePsrReg c w
    else .instr (decodeDpShiftImm c w)

/-- The words with bits 27:25 = 001 (R164). -/
def decodeImmediate (c : Cond) (w : Word) : Decoded :=
  if testWithoutS w then
    if bit w 21 then decodeMsrImm c w else .instr (.undefinedB5 c (field w 0 28))
  else .instr (decodeDpImm c w)

/-- A single data transfer with an immediate offset, by L, B, P and W (R171, spec/45_single_data_transfer.md R340). -/
def decodeSingleImm (c : Cond) (w : Word) : Instr :=
  let up := bit w 23
  let wb := bit w 21
  let rn := field w 16 4
  let rd := field w 12 4
  let offset := field w 0 12
  match bit w 20, bit w 22, bit w 24, bit w 21 with
  | true, false, true, _ => .ldrImmPre c up wb rn rd offset
  | true, false, false, false => .ldrImmPost c up rn rd offset
  | true, false, false, true => .ldrtImm c up rn rd offset
  | true, true, true, _ => .ldrbImmPre c up wb rn rd offset
  | true, true, false, false => .ldrbImmPost c up rn rd offset
  | true, true, false, true => .ldrbtImm c up rn rd offset
  | false, false, true, _ => .strImmPre c up wb rn rd offset
  | false, false, false, false => .strImmPost c up rn rd offset
  | false, false, false, true => .strtImm c up rn rd offset
  | false, true, true, _ => .strbImmPre c up wb rn rd offset
  | false, true, false, false => .strbImmPost c up rn rd offset
  | false, true, false, true => .strbtImm c up rn rd offset

/-- A single data transfer with a register offset (R171, R340). -/
def decodeSingleReg (c : Cond) (w : Word) : Instr :=
  let up := bit w 23
  let wb := bit w 21
  let rn := field w 16 4
  let rd := field w 12 4
  let amount := field w 7 5
  let ty := shiftField w
  let rm := field w 0 4
  match bit w 20, bit w 22, bit w 24, bit w 21 with
  | true, false, true, _ => .ldrRegPre c up wb rn rd amount ty rm
  | true, false, false, false => .ldrRegPost c up rn rd amount ty rm
  | true, false, false, true => .ldrtReg c up rn rd amount ty rm
  | true, true, true, _ => .ldrbRegPre c up wb rn rd amount ty rm
  | true, true, false, false => .ldrbRegPost c up rn rd amount ty rm
  | true, true, false, true => .ldrbtReg c up rn rd amount ty rm
  | false, false, true, _ => .strRegPre c up wb rn rd amount ty rm
  | false, false, false, false => .strRegPost c up rn rd amount ty rm
  | false, false, false, true => .strtReg c up rn rd amount ty rm
  | false, true, true, _ => .strbRegPre c up wb rn rd amount ty rm
  | false, true, false, false => .strbRegPost c up rn rd amount ty rm
  | false, true, false, true => .strbtReg c up rn rd amount ty rm

/-- A block data transfer, by L, S and bit 15 of the list (R177, spec/47_block_data_transfer.md R390). -/
def decodeBlock (c : Cond) (w : Word) : Instr :=
  let pre := bit w 24
  let up := bit w 23
  let wb := bit w 21
  let rn := field w 16 4
  match bit w 20, bit w 22, bit w 15 with
  | true, false, _ => .ldm c pre up wb rn (field w 0 16)
  | true, true, true => .ldmPc c pre up wb rn (field w 0 15)
  | true, true, false => .ldmUser c pre up wb rn (field w 0 15)
  | false, false, _ => .stm c pre up wb rn (field w 0 16)
  | false, true, _ => .stmUser c pre up wb rn (field w 0 16)

/-- LDC and STC (R173). -/
def decodeCoprocTransfer (c : Cond) (w : Word) : Instr :=
  if bit w 20 then
    .ldc c (bit w 24) (bit w 23) (bit w 22) (bit w 21) (field w 16 4) (field w 12 4) (field w 8 4) (field w 0 8)
  else
    .stc c (bit w 24) (bit w 23) (bit w 22) (bit w 21) (field w 16 4) (field w 12 4) (field w 8 4) (field w 0 8)

/-- SWI and its two architecturally defined numbers, CDP, MRC and MCR (R178, R179). -/
def decodeSwiCoproc (c : Cond) (w : Word) : Instr :=
  if bit w 24 then
    if field w 0 24 = 0xF00000 then .imb c
    else if field w 0 24 = 0xF00001 then .imbRange c
    else .swi c (field w 0 24)
  else if bit w 4 then
    if bit w 20 then .mrc c (field w 21 3) (field w 16 4) (field w 12 4) (field w 8 4) (field w 5 3) (field w 0 4)
    else .mcr c (field w 21 3) (field w 16 4) (field w 12 4) (field w 8 4) (field w 5 3) (field w 0 4)
  else .cdp c (field w 20 4) (field w 16 4) (field w 12 4) (field w 8 4) (field w 5 3) (field w 0 4)

/-- The decode below the condition field (R164). -/
def decodeClass (c : Cond) (w : Word) : Decoded :=
  match bit w 27, bit w 26, bit w 25 with
  | false, false, false => decodeRegister c w
  | false, false, true => decodeImmediate c w
  | false, true, false => .instr (decodeSingleImm c w)
  | false, true, true =>
    if bit w 4 then .instr (.undefinedA c (field w 0 28)) else .instr (decodeSingleReg c w)
  | true, false, false => .instr (decodeBlock c w)
  | true, false, true =>
    if bit w 24 then .instr (.bl c (field w 0 24)) else .instr (.b c (field w 0 24))
  | true, true, false => .instr (decodeCoprocTransfer c w)
  | true, true, true => .instr (decodeSwiCoproc c w)

/-- The instruction of a word: total, every reserved encoding told apart by name (R164, R165, R181, R182). -/
def decode (w : Word) : Decoded :=
  match Cond.ofCode (field w 28 4) with
  | some c => decodeClass c w
  | none => .reservedCondition

/-- The instruction the decoder reads from a table word: the bits above `nbits` are 0, and the bits are numbered as the
spec numbers them, which is how the table does (R9). -/
def decodeTableWord (nbits w : Nat) : Option Instr :=
  match decode (BitVec.ofNat 32 (w % 2 ^ nbits)) with
  | .instr i => some i
  | .reserved _ _ => none
  | .reservedCondition => none

/-- Bits 31:28 (R161). -/
def encodeCond (c : Cond) : Word := place c.code 28

/-- R170. -/
def encodeBranch (c : Cond) (link : Bool) (offset : BitVec 24) : Word :=
  encodeCond c ||| place (0b101#3) 25 ||| place (BitVec.ofBool link) 24 ||| place offset 0

/-- R166, R169. -/
def encodeDpImm (c : Cond) (op : BitVec 4) (sb : Bool) (rn rd : RegNo) (rotate : BitVec 4) (imm : BitVec 8) : Word :=
  encodeCond c ||| place (0b001#3) 25 ||| place op 21 ||| place (BitVec.ofBool sb) 20 ||| place rn 16 ||| place rd 12
    ||| place rotate 8 ||| place imm 0

/-- R166, R168. -/
def encodeDpShiftImm (c : Cond) (op : BitVec 4) (sb : Bool) (rn rd : RegNo) (amount : BitVec 5) (ty : ShiftType)
    (rm : RegNo) : Word :=
  encodeCond c ||| place op 21 ||| place (BitVec.ofBool sb) 20 ||| place rn 16 ||| place rd 12
    ||| place amount 7 ||| place ty.code 5 ||| place rm 0

/-- R166, R168. -/
def encodeDpShiftReg (c : Cond) (op : BitVec 4) (sb : Bool) (rn rd rs : RegNo) (ty : ShiftType) (rm : RegNo) : Word :=
  encodeCond c ||| place op 21 ||| place (BitVec.ofBool sb) 20 ||| place rn 16 ||| place rd 12
    ||| place rs 8 ||| place ty.code 5 ||| place (1#1) 4 ||| place rm 0

/-- Bits 19:16 of MSR (R174). -/
def encodeMask (mask : FieldMask) : Word :=
  place (BitVec.ofBool mask.flags) 19 ||| place (BitVec.ofBool mask.status) 18
    ||| place (BitVec.ofBool mask.extension) 17 ||| place (BitVec.ofBool mask.control) 16

/-- R174. -/
def encodeMrs (c : Cond) (saved : Bool) (rd : RegNo) : Word :=
  encodeCond c ||| place (0b00010#5) 23 ||| place (BitVec.ofBool saved) 22 ||| place (0xF#4) 16 ||| place rd 12

/-- R174. -/
def encodeMsrReg (c : Cond) (saved : Bool) (mask : FieldMask) (rm : RegNo) : Word :=
  encodeCond c ||| place (0b00010#5) 23 ||| place (BitVec.ofBool saved) 22 ||| place (0b10#2) 20 ||| encodeMask mask
    ||| place (0xF#4) 12 ||| place rm 0

/-- R174. -/
def encodeMsrImm (c : Cond) (saved : Bool) (mask : FieldMask) (rotate : BitVec 4) (imm : BitVec 8) : Word :=
  encodeCond c ||| place (0b00110#5) 23 ||| place (BitVec.ofBool saved) 22 ||| place (0b10#2) 20 ||| encodeMask mask
    ||| place (0xF#4) 12 ||| place rotate 8 ||| place imm 0

/-- R175. -/
def encodeMultiply (c : Cond) (acc sb : Bool) (rd rn rs rm : RegNo) : Word :=
  encodeCond c ||| place (BitVec.ofBool acc) 21 ||| place (BitVec.ofBool sb) 20 ||| place rd 16 ||| place rn 12
    ||| place rs 8 ||| place (0b1001#4) 4 ||| place rm 0

/-- R175. -/
def encodeMultiplyLong (c : Cond) (signed acc sb : Bool) (rdHi rdLo rs rm : RegNo) : Word :=
  encodeCond c ||| place (0b00001#5) 23 ||| place (BitVec.ofBool signed) 22 ||| place (BitVec.ofBool acc) 21
    ||| place (BitVec.ofBool sb) 20 ||| place rdHi 16 ||| place rdLo 12 ||| place rs 8 ||| place (0b1001#4) 4
    ||| place rm 0

/-- Bits 27:12 of a single data transfer (R171). -/
def encodeSingle (c : Cond) (kind : BitVec 3) (pre up byte wb load : Bool) (rn rd : RegNo) : Word :=
  encodeCond c ||| place kind 25 ||| place (BitVec.ofBool pre) 24 ||| place (BitVec.ofBool up) 23
    ||| place (BitVec.ofBool byte) 22 ||| place (BitVec.ofBool wb) 21 ||| place (BitVec.ofBool load) 20
    ||| place rn 16 ||| place rd 12

/-- R171. -/
def encodeSingleImm (c : Cond) (pre up byte wb load : Bool) (rn rd : RegNo) (offset : BitVec 12) : Word :=
  encodeSingle c 0b010 pre up byte wb load rn rd ||| place offset 0

/-- R171. -/
def encodeSingleReg (c : Cond) (pre up byte wb load : Bool) (rn rd : RegNo) (amount : BitVec 5) (ty : ShiftType)
    (rm : RegNo) : Word :=
  encodeSingle c 0b011 pre up byte wb load rn rd ||| place amount 7 ||| place ty.code 5 ||| place rm 0

/-- Bits 31:12 and 7:4 of a halfword or signed transfer (R172). -/
def encodeHalf (c : Cond) (pre up imm wb load signed half : Bool) (rn rd : RegNo) : Word :=
  encodeCond c ||| place (BitVec.ofBool pre) 24 ||| place (BitVec.ofBool up) 23 ||| place (BitVec.ofBool imm) 22
    ||| place (BitVec.ofBool wb) 21 ||| place (BitVec.ofBool load) 20 ||| place rn 16 ||| place rd 12
    ||| place (1#1) 7 ||| place (BitVec.ofBool signed) 6 ||| place (BitVec.ofBool half) 5 ||| place (1#1) 4

/-- R172: the offset's halves at 11:8 and 3:0. -/
def encodeHalfImm (c : Cond) (pre up wb load signed half : Bool) (rn rd : RegNo) (offset : BitVec 8) : Word :=
  encodeHalf c pre up true wb load signed half rn rd ||| place (offset.extractLsb' 4 4) 8
    ||| place (offset.extractLsb' 0 4) 0

/-- R172. -/
def encodeHalfReg (c : Cond) (pre up wb load signed half : Bool) (rn rd rm : RegNo) : Word :=
  encodeHalf c pre up false wb load signed half rn rd ||| place rm 0

/-- R177. -/
def encodeBlock (c : Cond) (pre up sBit wb load : Bool) (rn : RegNo) (list : BitVec 16) : Word :=
  encodeCond c ||| place (0b100#3) 25 ||| place (BitVec.ofBool pre) 24 ||| place (BitVec.ofBool up) 23
    ||| place (BitVec.ofBool sBit) 22 ||| place (BitVec.ofBool wb) 21 ||| place (BitVec.ofBool load) 20
    ||| place rn 16 ||| place list 0

/-- LDM with the S bit, bit 15 of the list apart (R177). -/
def encodeBlockSplit (c : Cond) (pre up wb : Bool) (rn : RegNo) (pc : Bool) (list : BitVec 15) : Word :=
  encodeCond c ||| place (0b100#3) 25 ||| place (BitVec.ofBool pre) 24 ||| place (BitVec.ofBool up) 23
    ||| place (1#1) 22 ||| place (BitVec.ofBool wb) 21 ||| place (1#1) 20
    ||| place rn 16 ||| place (BitVec.ofBool pc) 15 ||| place list 0

/-- R176. -/
def encodeSwap (c : Cond) (byte : Bool) (rn rd rm : RegNo) : Word :=
  encodeCond c ||| place (0b00010#5) 23 ||| place (BitVec.ofBool byte) 22 ||| place rn 16 ||| place rd 12
    ||| place (0b1001#4) 4 ||| place rm 0

/-- R179. -/
def encodeSwi (c : Cond) (comment : BitVec 24) : Word :=
  encodeCond c ||| place (0b1111#4) 24 ||| place comment 0

/-- R178. -/
def encodeCdp (c : Cond) (opc crn crd cp : BitVec 4) (info : BitVec 3) (crm : BitVec 4) : Word :=
  encodeCond c ||| place (0b1110#4) 24 ||| place opc 20 ||| place crn 16 ||| place crd 12 ||| place cp 8
    ||| place info 5 ||| place crm 0

/-- R173. -/
def encodeCoprocTransfer (c : Cond) (load pre up long wb : Bool) (rn crd cp : BitVec 4) (offset : BitVec 8) : Word :=
  encodeCond c ||| place (0b110#3) 25 ||| place (BitVec.ofBool pre) 24 ||| place (BitVec.ofBool up) 23
    ||| place (BitVec.ofBool long) 22 ||| place (BitVec.ofBool wb) 21 ||| place (BitVec.ofBool load) 20
    ||| place rn 16 ||| place crd 12 ||| place cp 8 ||| place offset 0

/-- R178. -/
def encodeCoprocRegister (c : Cond) (load : Bool) (opc : BitVec 3) (crn rd cp : BitVec 4) (info : BitVec 3)
    (crm : BitVec 4) : Word :=
  encodeCond c ||| place (0b1110#4) 24 ||| place opc 21 ||| place (BitVec.ofBool load) 20 ||| place crn 16
    ||| place rd 12 ||| place cp 8 ||| place info 5 ||| place (1#1) 4 ||| place crm 0

/-- An undefined row keeps its bits 27:0 (R180). -/
def encodeUndefined (c : Cond) (bits : BitVec 28) : Word := encodeCond c ||| place bits 0

/-- The word of a well-formed instruction. -/
def encode : Instr → Word
  | .b c offset => encodeBranch c false offset
  | .bl c offset => encodeBranch c true offset
  | .andImm c sb rn rd rotate imm => encodeDpImm c 0 sb rn rd rotate imm
  | .andShiftImm c sb rn rd amount ty rm => encodeDpShiftImm c 0 sb rn rd amount ty rm
  | .andShiftReg c sb rn rd rs ty rm => encodeDpShiftReg c 0 sb rn rd rs ty rm
  | .eorImm c sb rn rd rotate imm => encodeDpImm c 1 sb rn rd rotate imm
  | .eorShiftImm c sb rn rd amount ty rm => encodeDpShiftImm c 1 sb rn rd amount ty rm
  | .eorShiftReg c sb rn rd rs ty rm => encodeDpShiftReg c 1 sb rn rd rs ty rm
  | .subImm c sb rn rd rotate imm => encodeDpImm c 2 sb rn rd rotate imm
  | .subShiftImm c sb rn rd amount ty rm => encodeDpShiftImm c 2 sb rn rd amount ty rm
  | .subShiftReg c sb rn rd rs ty rm => encodeDpShiftReg c 2 sb rn rd rs ty rm
  | .rsbImm c sb rn rd rotate imm => encodeDpImm c 3 sb rn rd rotate imm
  | .rsbShiftImm c sb rn rd amount ty rm => encodeDpShiftImm c 3 sb rn rd amount ty rm
  | .rsbShiftReg c sb rn rd rs ty rm => encodeDpShiftReg c 3 sb rn rd rs ty rm
  | .addImm c sb rn rd rotate imm => encodeDpImm c 4 sb rn rd rotate imm
  | .addShiftImm c sb rn rd amount ty rm => encodeDpShiftImm c 4 sb rn rd amount ty rm
  | .addShiftReg c sb rn rd rs ty rm => encodeDpShiftReg c 4 sb rn rd rs ty rm
  | .adcImm c sb rn rd rotate imm => encodeDpImm c 5 sb rn rd rotate imm
  | .adcShiftImm c sb rn rd amount ty rm => encodeDpShiftImm c 5 sb rn rd amount ty rm
  | .adcShiftReg c sb rn rd rs ty rm => encodeDpShiftReg c 5 sb rn rd rs ty rm
  | .sbcImm c sb rn rd rotate imm => encodeDpImm c 6 sb rn rd rotate imm
  | .sbcShiftImm c sb rn rd amount ty rm => encodeDpShiftImm c 6 sb rn rd amount ty rm
  | .sbcShiftReg c sb rn rd rs ty rm => encodeDpShiftReg c 6 sb rn rd rs ty rm
  | .rscImm c sb rn rd rotate imm => encodeDpImm c 7 sb rn rd rotate imm
  | .rscShiftImm c sb rn rd amount ty rm => encodeDpShiftImm c 7 sb rn rd amount ty rm
  | .rscShiftReg c sb rn rd rs ty rm => encodeDpShiftReg c 7 sb rn rd rs ty rm
  | .tstImm c rn rd rotate imm => encodeDpImm c 8 true rn rd rotate imm
  | .tstShiftImm c rn rd amount ty rm => encodeDpShiftImm c 8 true rn rd amount ty rm
  | .tstShiftReg c rn rd rs ty rm => encodeDpShiftReg c 8 true rn rd rs ty rm
  | .teqImm c rn rd rotate imm => encodeDpImm c 9 true rn rd rotate imm
  | .teqShiftImm c rn rd amount ty rm => encodeDpShiftImm c 9 true rn rd amount ty rm
  | .teqShiftReg c rn rd rs ty rm => encodeDpShiftReg c 9 true rn rd rs ty rm
  | .cmpImm c rn rd rotate imm => encodeDpImm c 10 true rn rd rotate imm
  | .cmpShiftImm c rn rd amount ty rm => encodeDpShiftImm c 10 true rn rd amount ty rm
  | .cmpShiftReg c rn rd rs ty rm => encodeDpShiftReg c 10 true rn rd rs ty rm
  | .cmnImm c rn rd rotate imm => encodeDpImm c 11 true rn rd rotate imm
  | .cmnShiftImm c rn rd amount ty rm => encodeDpShiftImm c 11 true rn rd amount ty rm
  | .cmnShiftReg c rn rd rs ty rm => encodeDpShiftReg c 11 true rn rd rs ty rm
  | .orrImm c sb rn rd rotate imm => encodeDpImm c 12 sb rn rd rotate imm
  | .orrShiftImm c sb rn rd amount ty rm => encodeDpShiftImm c 12 sb rn rd amount ty rm
  | .orrShiftReg c sb rn rd rs ty rm => encodeDpShiftReg c 12 sb rn rd rs ty rm
  | .movImm c sb rn rd rotate imm => encodeDpImm c 13 sb rn rd rotate imm
  | .movShiftImm c sb rn rd amount ty rm => encodeDpShiftImm c 13 sb rn rd amount ty rm
  | .movShiftReg c sb rn rd rs ty rm => encodeDpShiftReg c 13 sb rn rd rs ty rm
  | .bicImm c sb rn rd rotate imm => encodeDpImm c 14 sb rn rd rotate imm
  | .bicShiftImm c sb rn rd amount ty rm => encodeDpShiftImm c 14 sb rn rd amount ty rm
  | .bicShiftReg c sb rn rd rs ty rm => encodeDpShiftReg c 14 sb rn rd rs ty rm
  | .mvnImm c sb rn rd rotate imm => encodeDpImm c 15 sb rn rd rotate imm
  | .mvnShiftImm c sb rn rd amount ty rm => encodeDpShiftImm c 15 sb rn rd amount ty rm
  | .mvnShiftReg c sb rn rd rs ty rm => encodeDpShiftReg c 15 sb rn rd rs ty rm
  | .mrsCpsr c rd => encodeMrs c false rd
  | .mrsSpsr c rd => encodeMrs c true rd
  | .msrCpsrReg c mask rm => encodeMsrReg c false mask rm
  | .msrCpsrImm c mask rotate imm => encodeMsrImm c false mask rotate imm
  | .msrSpsrReg c mask rm => encodeMsrReg c true mask rm
  | .msrSpsrImm c mask rotate imm => encodeMsrImm c true mask rotate imm
  | .mul c sb rd rn rs rm => encodeMultiply c false sb rd rn rs rm
  | .mla c sb rd rn rs rm => encodeMultiply c true sb rd rn rs rm
  | .umull c sb rdHi rdLo rs rm => encodeMultiplyLong c false false sb rdHi rdLo rs rm
  | .umlal c sb rdHi rdLo rs rm => encodeMultiplyLong c false true sb rdHi rdLo rs rm
  | .smull c sb rdHi rdLo rs rm => encodeMultiplyLong c true false sb rdHi rdLo rs rm
  | .smlal c sb rdHi rdLo rs rm => encodeMultiplyLong c true true sb rdHi rdLo rs rm
  | .ldrImmPre c up wb rn rd offset => encodeSingleImm c true up false wb true rn rd offset
  | .ldrImmPost c up rn rd offset => encodeSingleImm c false up false false true rn rd offset
  | .ldrtImm c up rn rd offset => encodeSingleImm c false up false true true rn rd offset
  | .ldrRegPre c up wb rn rd amount ty rm => encodeSingleReg c true up false wb true rn rd amount ty rm
  | .ldrRegPost c up rn rd amount ty rm => encodeSingleReg c false up false false true rn rd amount ty rm
  | .ldrtReg c up rn rd amount ty rm => encodeSingleReg c false up false true true rn rd amount ty rm
  | .ldrbImmPre c up wb rn rd offset => encodeSingleImm c true up true wb true rn rd offset
  | .ldrbImmPost c up rn rd offset => encodeSingleImm c false up true false true rn rd offset
  | .ldrbtImm c up rn rd offset => encodeSingleImm c false up true true true rn rd offset
  | .ldrbRegPre c up wb rn rd amount ty rm => encodeSingleReg c true up true wb true rn rd amount ty rm
  | .ldrbRegPost c up rn rd amount ty rm => encodeSingleReg c false up true false true rn rd amount ty rm
  | .ldrbtReg c up rn rd amount ty rm => encodeSingleReg c false up true true true rn rd amount ty rm
  | .strImmPre c up wb rn rd offset => encodeSingleImm c true up false wb false rn rd offset
  | .strImmPost c up rn rd offset => encodeSingleImm c false up false false false rn rd offset
  | .strtImm c up rn rd offset => encodeSingleImm c false up false true false rn rd offset
  | .strRegPre c up wb rn rd amount ty rm => encodeSingleReg c true up false wb false rn rd amount ty rm
  | .strRegPost c up rn rd amount ty rm => encodeSingleReg c false up false false false rn rd amount ty rm
  | .strtReg c up rn rd amount ty rm => encodeSingleReg c false up false true false rn rd amount ty rm
  | .strbImmPre c up wb rn rd offset => encodeSingleImm c true up true wb false rn rd offset
  | .strbImmPost c up rn rd offset => encodeSingleImm c false up true false false rn rd offset
  | .strbtImm c up rn rd offset => encodeSingleImm c false up true true false rn rd offset
  | .strbRegPre c up wb rn rd amount ty rm => encodeSingleReg c true up true wb false rn rd amount ty rm
  | .strbRegPost c up rn rd amount ty rm => encodeSingleReg c false up true false false rn rd amount ty rm
  | .strbtReg c up rn rd amount ty rm => encodeSingleReg c false up true true false rn rd amount ty rm
  | .ldrhRegPre c up wb rn rd rm => encodeHalfReg c true up wb true false true rn rd rm
  | .ldrhRegPost c up rn rd rm => encodeHalfReg c false up false true false true rn rd rm
  | .ldrhImmPre c up wb rn rd offset => encodeHalfImm c true up wb true false true rn rd offset
  | .ldrhImmPost c up rn rd offset => encodeHalfImm c false up false true false true rn rd offset
  | .ldrsbRegPre c up wb rn rd rm => encodeHalfReg c true up wb true true false rn rd rm
  | .ldrsbRegPost c up rn rd rm => encodeHalfReg c false up false true true false rn rd rm
  | .ldrsbImmPre c up wb rn rd offset => encodeHalfImm c true up wb true true false rn rd offset
  | .ldrsbImmPost c up rn rd offset => encodeHalfImm c false up false true true false rn rd offset
  | .ldrshRegPre c up wb rn rd rm => encodeHalfReg c true up wb true true true rn rd rm
  | .ldrshRegPost c up rn rd rm => encodeHalfReg c false up false true true true rn rd rm
  | .ldrshImmPre c up wb rn rd offset => encodeHalfImm c true up wb true true true rn rd offset
  | .ldrshImmPost c up rn rd offset => encodeHalfImm c false up false true true true rn rd offset
  | .strhRegPre c up wb rn rd rm => encodeHalfReg c true up wb false false true rn rd rm
  | .strhRegPost c up rn rd rm => encodeHalfReg c false up false false false true rn rd rm
  | .strhImmPre c up wb rn rd offset => encodeHalfImm c true up wb false false true rn rd offset
  | .strhImmPost c up rn rd offset => encodeHalfImm c false up false false false true rn rd offset
  | .ldm c pre up wb rn list => encodeBlock c pre up false wb true rn list
  | .ldmPc c pre up wb rn list => encodeBlockSplit c pre up wb rn true list
  | .ldmUser c pre up wb rn list => encodeBlockSplit c pre up wb rn false list
  | .stm c pre up wb rn list => encodeBlock c pre up false wb false rn list
  | .stmUser c pre up wb rn list => encodeBlock c pre up true wb false rn list
  | .swp c rn rd rm => encodeSwap c false rn rd rm
  | .swpb c rn rd rm => encodeSwap c true rn rd rm
  | .swi c comment => encodeSwi c comment
  | .imb c => encodeSwi c 0xF00000
  | .imbRange c => encodeSwi c 0xF00001
  | .cdp c opc crn crd cp info crm => encodeCdp c opc crn crd cp info crm
  | .ldc c pre up long wb rn crd cp offset => encodeCoprocTransfer c true pre up long wb rn crd cp offset
  | .stc c pre up long wb rn crd cp offset => encodeCoprocTransfer c false pre up long wb rn crd cp offset
  | .mrc c opc crn rd cp info crm => encodeCoprocRegister c true opc crn rd cp info crm
  | .mcr c opc crn rd cp info crm => encodeCoprocRegister c false opc crn rd cp info crm
  | .undefinedA c bits => encodeUndefined c bits
  | .undefinedB1 c bits => encodeUndefined c bits
  | .undefinedB2 c bits => encodeUndefined c bits
  | .undefinedB3 c bits => encodeUndefined c bits
  | .undefinedB4 c bits => encodeUndefined c bits
  | .undefinedB5 c bits => encodeUndefined c bits
  | .undefinedC c bits => encodeUndefined c bits
  | .undefinedD1 c bits => encodeUndefined c bits
  | .undefinedD2 c bits => encodeUndefined c bits
  | .undefinedD3 c bits => encodeUndefined c bits
  | .undefinedE1 c bits => encodeUndefined c bits
  | .undefinedE2 c bits => encodeUndefined c bits
  | .undefinedE3 c bits => encodeUndefined c bits
  | .undefinedE4 c bits => encodeUndefined c bits

end Sys2Proof
end

