-- ==== Sys2Proof/Machine/State.lean ====
section
/-! DEFINITION. The state of the machine, the reasons it stops, and the state after reset. Everything
spec/10_state.md R58 lists is here; INVENTORY.md gives each field's rule and reset value. -/

namespace Sys2Proof.Machine

/-- One register number's six copies, one per bank (spec/10_state.md R31). -/
structure Banked where
  usr : Word
  fiq : Word
  irq : Word
  svc : Word
  abt : Word
  und : Word
  deriving DecidableEq, Repr

/-- The thirty general registers other than R15 (R31). -/
structure RegFile where
  /-- R0 to R7. -/
  low : Vector Word 8
  /-- R8 to R12 of every mode but FIQ. -/
  mid : Vector Word 5
  /-- R8_fiq to R12_fiq. -/
  midFiq : Vector Word 5
  r13 : Banked
  r14 : Banked
  deriving DecidableEq, Repr

/-- The current program status register (R44); M holds one of the eleven valid modes (R47, R48). -/
structure Cpsr where
  n : Bool
  z : Bool
  c : Bool
  v : Bool
  i : Bool
  f : Bool
  mode : Mode
  deriving DecidableEq, Repr

/-- A saved program status register (R44); M may hold any value (R48). -/
structure Psr where
  n : Bool
  z : Bool
  c : Bool
  v : Bool
  i : Bool
  f : Bool
  m : BitVec 5
  deriving DecidableEq, Repr

/-- The five saved status registers (R32). -/
structure SpsrBank where
  fiq : Psr
  irq : Psr
  svc : Psr
  abt : Psr
  und : Psr
  deriving DecidableEq, Repr

/-- The exceptions but Reset (spec/60_exceptions.md R501). -/
inductive Exc where
  | undefined | swi | prefetchAbort | dataAbort | irq | fiq
  deriving DecidableEq, Repr

/-- The request kinds a step issues (spec/20_memory.md R103). The M kinds say that more words of the same block
transfer follow; the S kinds are sequential to the previous request; `spec` and `specS` are the Prefetch Unit's
speculative fetches. AREQ_CONTROL is in `controlLog`. -/
inductive RequestKind where
  | fetch | fetchS | spec | specS
  | load | loadM | loadS | loadSM | loadB | loadH | loadX | loadBX
  | store | storeM | storeS | storeSM | storeB | storeH | storeX | storeBX
  deriving DecidableEq, Repr

/-- One rule of the memory oracle (R100): requests that meet it are answered with an abort. -/
structure AbortRegion where
  /-- The lowest address. -/
  first : Nat
  /-- The highest address, itself included. -/
  last : Nat
  /-- The kinds it aborts. -/
  kinds : List RequestKind
  /-- `some b`: only requests whose `Privileged` attribute is b (R101). -/
  privileged : Option Bool
  /-- `some b`: only requests whose `TwentySixBit` attribute is b (R101). -/
  twentySix : Option Bool
  /-- An external abort, which no store can get (R104), instead of an MMU abort. -/
  external : Bool
  deriving DecidableEq, Repr

/-- The levels of the three inputs at one sampling point, `true` for an asserted (LOW) pin (spec/60_exceptions.md
R520, spec/70_reset_and_hazards.md R600). -/
structure Lines where
  reset : Bool
  fiq : Bool
  irq : Bool
  deriving DecidableEq, Repr

/-- How the instruction at the PC comes to the Core: by a fetch that is or is not sequential to the previous one
(spec/20_memory.md R103), or by none, for a coprocessor instruction held in its busy-wait loop
(spec/49_coprocessor_undefined.md R461). -/
inductive NextFetch where
  | nonSequential | sequential | held
  deriving DecidableEq, Repr

/-- The coprocessors' verdict on an instruction offered to them (spec/49_coprocessor_undefined.md R452). -/
inductive CoprocAnswer where
  | bounce
  | accept (d : Word)
  deriving DecidableEq, Repr

/-- What one consultation of the coprocessor oracle returns (R452): the busy-wait cycles still to come, `none` when they
never end, and the answer after them. -/
structure CoprocReply where
  waits : Option Nat
  answer : CoprocAnswer
  deriving DecidableEq, Repr

/-- A coprocessor instruction the coprocessors let execute: I[25:0], `CPrivileged`, and the word of MCR (R452, R460). -/
structure CoprocEvent where
  instr : BitVec 26
  privileged : Bool
  data : Option Word
  deriving DecidableEq, Repr

/-- Memory as (address, byte) pairs in one canonical form: addresses strictly rising, no entry equal to what an
unlisted address reads as. -/
abbrev Memory := List Host.Cell

/-- The state of the machine (R58). -/
structure State where
  /-- The general registers (R31). -/
  regs : RegFile
  /-- R15: the address of the instruction to execute next (R37). -/
  pc : Word
  /-- How the instruction at the PC comes to the Core (spec/20_memory.md R103, spec/49_coprocessor_undefined.md R461). -/
  nextFetch : NextFetch
  cpsr : Cpsr
  spsr : SpsrBank
  /-- The 2^32 bytes (spec/20_memory.md R80). -/
  mem : Memory
  /-- Word addresses written since the last IMB, strictly rising (R127). -/
  stale : List Nat
  /-- The step whose instruction must not read a banked register (spec/47_block_data_transfer.md R403). -/
  hazardStep : Option Nat
  /-- The addresses after the MSRs that changed between 26-bit and 32-bit modes and whose IMB is still to come: the
  instruction there must be an executed SWI (R129, log 9). -/
  imbOwed : List Word
  /-- The address after the latest executed SWI, until the instruction there has run (R129). -/
  imbReturn : Option Word
  /-- `nReset` is held LOW (spec/70_reset_and_hazards.md R600). -/
  inReset : Bool
  /-- The samples of the input pins still to come, one for each step; none left: nothing asserted. -/
  lines : List Lines
  /-- Which requests the memory system aborts (R100). -/
  abortMap : List AbortRegion
  /-- The coprocessor numbers that exist (spec/49_coprocessor_undefined.md R464). -/
  presentCps : List (BitVec 4)
  /-- The coprocessors' replies still to come, one for each instruction offered; none left: they bounce (R452). -/
  coproc : List CoprocReply
  /-- The coprocessor instructions executed, newest first (R452). -/
  coprocLog : List CoprocEvent
  /-- The AREQ_CONTROL requests made, newest first (R117, R460). -/
  controlLog : List Word
  /-- The pin BIGEND (R84). -/
  bigend : Bool
  /-- The parameter TrapClassesBtoE (R470). -/
  trapClassesBtoE : Bool
  /-- How many steps were taken: what the free values are drawn by (log 1). -/
  tick : Nat
  deriving DecidableEq, Repr

/-- Why a step stops with a fault. Both are points the spec calls UNPREDICTABLE because the Prefetch Unit may hold
other words than memory; nothing can be proved about what follows, so both are safe. -/
inductive Fault where
  /-- U29: `step` reached an instruction whose word was written since the last IMB (spec/20_memory.md R127). Safe. -/
  | staleInstruction
  /-- U30: `step` reached the instruction after an MSR that changed between a 26-bit and a 32-bit mode with no IMB before
  it, no IMB was executed since, and this is no executed SWI (R129). Safe. -/
  | modeChangeWithoutImb
  deriving DecidableEq, Repr

/-- Why a step is refused. Each but the first is a use the spec calls UNPREDICTABLE and gives no result (spec/00_scope.md
R14; the numbers U<n> are those of spec/93_implementation_defined.md); all are safe: nothing can be proved about a
state that is not given. -/
inductive Refusal where
  /-- The instruction has no meaning in this model: no arm answers so. -/
  | notModelled (mnemonic : String)
  /-- U1: `step` fetched a word with condition field 1111 (spec/30_encoding.md R182). -/
  | reservedCondition
  /-- U7: `step` fetched an MRS or MSR word with another value in a "should be" field (R307). -/
  | reservedPsrField
  /-- U19: `step` fetched a SWP word with bits 11:8 not zero (R165). -/
  | reservedSwapField
  /-- U19: `step` fetched a register-offset halfword word with bits 11:8 not zero (R165). -/
  | reservedHalfwordField
  /-- U2: a register-specified shift with R15 as Rn, Rm or Rs (spec/42_data_processing.md R258). -/
  | registerShiftUsesR15
  /-- U3: a data processing return from exception in User or System mode (R257). -/
  | returnWithoutSpsr
  /-- U4: the P form of a test in a 32-bit mode (R283). -/
  | testPIn32BitMode
  /-- U5: MRS to R15 or MSR from R15 (spec/43_psr_transfer.md R307). -/
  | psrTransferUsesR15
  /-- U6: MRS or MSR naming the SPSR in a mode that has none (R302, R305). -/
  | spsrAbsent
  /-- U8: an invalid mode number written to CPSR.M (spec/10_state.md R48). -/
  | invalidMode
  /-- U9: MUL or MLA with Rd = Rm or with R15 (spec/44_multiply.md R324). -/
  | multiplyOperands
  /-- U10: a long multiply with R15 or with two of RdHi, RdLo, Rm equal (R329). -/
  | longMultiplyOperands
  /-- U11, U17: write-back to R15 (spec/45_single_data_transfer.md R348, spec/46_halfword_signed_transfer.md R378). -/
  | writeBackToR15
  /-- U12: a byte transfer of R15 (R349). -/
  | byteTransferOfR15
  /-- U13: R15 loaded from or stored to a misaligned address (R350, R351). -/
  | misalignedPcTransfer
  /-- U14, U17: R15 as the offset register (R352, R378). -/
  | offsetRegisterR15
  /-- U15, U17: a post-indexed transfer whose offset register is its base (R353, R378). -/
  | postIndexBaseIsOffset
  /-- U16, U17: a load with write-back into its own base (R353, R378). -/
  | loadWriteBackToDestination
  /-- U17: a halfword or signed transfer of R15 (R378). -/
  | halfwordTransferOfR15
  /-- U18: a halfword store to an odd address (R380). -/
  | misalignedHalfwordStore
  /-- U20: R15 as the base of a block transfer (spec/47_block_data_transfer.md R404). -/
  | blockBaseR15
  /-- U21: an empty register list (R407). -/
  | emptyRegisterList
  /-- U22: LDM with write-back and its base in the list (R399). -/
  | loadMultipleBaseInList
  /-- U23: a block transfer with the S bit in User or System mode (R400). -/
  | blockSBitWithoutSpsr
  /-- U24: a user-bank transfer with write-back (R402, R403). -/
  | userBankWriteBack
  /-- U25: SWP or SWPB with R15 (spec/48_swap_swi_imb.md R424). -/
  | swapUsesR15
  /-- U26: MCR from R15 (spec/49_coprocessor_undefined.md R459). -/
  | mcrFromR15
  /-- U27: a coprocessor accepted a CDP, LDC or STC (R454, R455). -/
  | coprocessorAccepted
  /-- U27: an MRC or MCR was accepted for a coprocessor that does not exist (R452, R464). -/
  | absentCoprocessorAccepted
  /-- U28: a word of class B to E with TrapClassesBtoE false (R470). -/
  | unallocatedTrapDisabled
  /-- U30: a 26-bit mode entered by MSR or by an exception return at an address above 0x03FFFFFF (spec/20_memory.md R82). -/
  | enter26Outside
  /-- U30: 26-bit code run sequentially past 0x03FFFFFC (R82). -/
  | sequentialWrap26
  /-- U31: R15 read as an operand in a 26-bit mode (spec/10_state.md R43). -/
  | r15ReadIn26BitMode
  deriving DecidableEq, Repr

/-- What a meaning answers. -/
abbrev Result := Host.Outcome State Fault Refusal

/-- A register's copies, all 0 (log 2). -/
def Banked.zero : Banked := { usr := 0, fiq := 0, irq := 0, svc := 0, abt := 0, und := 0 }

/-- An SPSR with every bit 0 (log 4). -/
def Psr.zero : Psr := { n := false, z := false, c := false, v := false, i := false, f := false, m := 0 }

/-- The machine right after reset (R57, spec/70_reset_and_hazards.md R602): Supervisor mode, both interrupts disabled,
execution from address 0. The registers, flags and SPSRs the spec leaves unspecified are 0: DESIGN CHOICE, log 2, 3
and 4. -/
def State.reset : State where
  regs :=
    { low := Vector.replicate 8 0, mid := Vector.replicate 5 0, midFiq := Vector.replicate 5 0, r13 := Banked.zero,
      r14 := Banked.zero }
  pc := 0
  nextFetch := .nonSequential
  cpsr := { n := false, z := false, c := false, v := false, i := true, f := true, mode := .svc }
  spsr := { fiq := Psr.zero, irq := Psr.zero, svc := Psr.zero, abt := Psr.zero, und := Psr.zero }
  mem := []
  stale := []
  hazardStep := none
  imbOwed := []
  imbReturn := none
  inReset := false
  lines := []
  abortMap := []
  presentCps := []
  coproc := []
  coprocLog := []
  controlLog := []
  bigend := false
  trapClassesBtoE := true
  tick := 0

end Sys2Proof.Machine
end

