-- ==== Sys2Proof/Machine/Flags.lean ====
section
/-! DEFINITION. Conditions and flag computations: spec/40_conditional_execution.md R222, spec/42_data_processing.md
R253, R254, R267 to R284, spec/44_multiply.md R323 and R328. -/

namespace Sys2Proof.Machine

/-- ConditionPassed (R221, R222). -/
def conditionPassed (c : Cond) (p : Cpsr) : Bool :=
  match c with
  | .eq => p.z
  | .ne => !p.z
  | .cs => p.c
  | .cc => !p.c
  | .mi => p.n
  | .pl => !p.n
  | .vs => p.v
  | .vc => !p.v
  | .hi => p.c && !p.z
  | .ls => !p.c || p.z
  | .ge => p.n == p.v
  | .lt => p.n != p.v
  | .gt => !p.z && p.n == p.v
  | .le => p.z || p.n != p.v
  | .al => true

/-- A result of the ALU with the C and V it gives. -/
structure AluResult where
  value : Word
  carry : Bool
  overflow : Bool
  deriving DecidableEq, Repr

/-- AddWithCarry (R254): the exact unsigned and signed sums, narrowed. -/
def addWithCarry (p q : Word) (cin : Bool) : AluResult :=
  let usum : Nat := p.toNat + q.toNat + cin.toNat
  let ssum : Int := p.toInt + q.toInt + cin.toNat
  let res := BitVec.ofNat 32 usum
  { value := res, carry := decide (2 ^ 32 ≤ usum), overflow := decide (ssum ≠ res.toInt) }

/-- The sixteen data processing operations, in the order of their opcodes (spec/30_encoding.md R167). -/
inductive AluOp where
  | and | eor | sub | rsb | add | adc | sbc | rsc | tst | teq | cmp | cmn | orr | mov | bic | mvn
  deriving DecidableEq, Repr

/-- TST, TEQ, CMP and CMN write no register (R252). -/
def AluOp.isTest : AluOp → Bool
  | .tst | .teq | .cmp | .cmn => true
  | .and | .eor | .sub | .rsb | .add | .adc | .sbc | .rsc | .orr | .mov | .bic | .mvn => false

/-- MOV and MVN do not read Rn (R280, R282). -/
def AluOp.ignoresRn : AluOp → Bool
  | .mov | .mvn => true
  | .and | .eor | .sub | .rsb | .add | .adc | .sbc | .rsc | .tst | .teq | .cmp | .cmn | .orr | .bic => false

/-- The operations of Table 4-1 (R267 to R282) on `a` = Rn and `b` = operand 2, with the carry `cin`, the shifter's
carry-out `sc` and the old V: a logical operation gives C = `sc` and keeps V (R253), an arithmetic one gives both from
the sum (R254). -/
def aluEval (op : AluOp) (a b : Word) (cin sc oldV : Bool) : AluResult :=
  match op with
  | .and | .tst => { value := a &&& b, carry := sc, overflow := oldV }
  | .eor | .teq => { value := a ^^^ b, carry := sc, overflow := oldV }
  | .sub | .cmp => addWithCarry a (~~~b) true
  | .rsb => addWithCarry b (~~~a) true
  | .add | .cmn => addWithCarry a b false
  | .adc => addWithCarry a b cin
  | .sbc => addWithCarry a (~~~b) cin
  | .rsc => addWithCarry b (~~~a) cin
  | .orr => { value := a ||| b, carry := sc, overflow := oldV }
  | .mov => { value := b, carry := sc, overflow := oldV }
  | .bic => { value := a &&& ~~~b, carry := sc, overflow := oldV }
  | .mvn => { value := ~~~b, carry := sc, overflow := oldV }

/-- N, Z, C and V from a result of the ALU (R253, R254). -/
def setAluFlags (s : State) (r : AluResult) : State :=
  { s with cpsr := { s.cpsr with n := r.value.msb, z := r.value == 0, c := r.carry, v := r.overflow } }

/-- N, Z, C and V from bits 31 to 28 of a word: MSR (R304), MRC to R15 (spec/49_coprocessor_undefined.md R458) and the
26-bit forms (R284). -/
def setFlagBits (s : State) (w : Word) : State :=
  { s with cpsr := { s.cpsr with
      n := w.getLsbD 31, z := w.getLsbD 30, c := w.getLsbD 29, v := w.getLsbD 28 } }

/-- The 26-bit mode of M1 and M0, with M[4:2] = 000 (spec/10_state.md R47). -/
def mode26 (m1 m0 : Bool) : Mode :=
  match m1, m0 with
  | false, false => .usr26
  | false, true => .fiq26
  | true, false => .irq26
  | true, true => .svc26

/-- What a write of R15 with the S bit, a P form or LDM with the S bit sets in a 26-bit mode from the word written: N, Z,
C, V, and outside User mode also I, F, M1 and M0 (R284, R285, spec/47_block_data_transfer.md R408). -/
def setPsr26 (s : State) (w : Word) : State :=
  let t := setFlagBits s w
  if s.cpsr.mode = .usr26 then t
  else { t with cpsr := { t.cpsr with
      i := w.getLsbD 27, f := w.getLsbD 26, mode := mode26 (w.getLsbD 1) (w.getLsbD 0) } }

/-- Flags of MUL and MLA: N and Z of the result, C meaningless, V kept (spec/44_multiply.md R323, log 29). -/
def setMultiplyFlags (s : State) (res : Word) : State :=
  { s with cpsr := { s.cpsr with n := res.msb, z := res == 0, c := Config.freeBit s.tick .multiplyC } }

/-- Flags of the long multiplies: N and Z of the 64 bits, C and V meaningless (R328, log 29). -/
def setLongMultiplyFlags (s : State) (res : BitVec 64) : State :=
  { s with cpsr := { s.cpsr with
      n := res.msb, z := res == 0, c := Config.freeBit s.tick .multiplyC, v := Config.freeBit s.tick .multiplyV } }

end Sys2Proof.Machine
end

