-- ==== Sys2Proof/Machine/Operands.lean ====
section
/-! DEFINITION. Operand forms: the shifter and the immediate operand (spec/42_data_processing.md R259 to R266), the
offset and address of the single transfers (spec/45_single_data_transfer.md R341, R342), the register list and the
addresses of the block transfers (spec/47_block_data_transfer.md R391, R392, R394). -/

namespace Sys2Proof.Machine

/-- A second operand with the shifter's carry-out (R251, R259). -/
structure ShifterOut where
  value : Word
  carry : Bool
  deriving DecidableEq, Repr

/-- A shift by an amount in the instruction, 0 to 31, where amount 0 encodes LSL #0, LSR #32, ASR #32 and RRX
(R260 to R264). `c` is the old C flag. -/
def shiftByImmediate (ty : ShiftType) (m : Word) (n : Nat) (c : Bool) : ShifterOut :=
  match ty with
  | .lsl =>
    if n = 0 then { value := m, carry := c } else { value := m <<< n, carry := m.getLsbD (32 - n) }
  | .lsr =>
    if n = 0 then { value := 0, carry := m.getLsbD 31 } else { value := m >>> n, carry := m.getLsbD (n - 1) }
  | .asr =>
    if n = 0 then { value := m.sshiftRight 31, carry := m.getLsbD 31 }
    else { value := m.sshiftRight n, carry := m.getLsbD (n - 1) }
  | .ror =>
    if n = 0 then { value := (BitVec.ofBool c).setWidth 32 <<< 31 ||| m >>> 1, carry := m.getLsbD 0 }
    else { value := m.rotateRight n, carry := m.getLsbD (n - 1) }

/-- A shift by the bottom byte of a register, 0 to 255 (R265). -/
def shiftByRegister (ty : ShiftType) (m : Word) (n : Nat) (c : Bool) : ShifterOut :=
  if n = 0 then { value := m, carry := c }
  else
    match ty with
    | .lsl =>
      if n < 32 then { value := m <<< n, carry := m.getLsbD (32 - n) }
      else if n = 32 then { value := 0, carry := m.getLsbD 0 }
      else { value := 0, carry := false }
    | .lsr =>
      if n < 32 then { value := m >>> n, carry := m.getLsbD (n - 1) }
      else if n = 32 then { value := 0, carry := m.getLsbD 31 }
      else { value := 0, carry := false }
    | .asr =>
      if n < 32 then { value := m.sshiftRight n, carry := m.getLsbD (n - 1) }
      else { value := m.sshiftRight 31, carry := m.getLsbD 31 }
    | .ror => { value := m.rotateRight ((n - 1) % 32 + 1), carry := m.getLsbD ((n - 1) % 32) }

/-- An 8-bit immediate rotated right by twice the Rotate field (R169, R266). -/
def rotatedImmediate (rotate : BitVec 4) (imm : BitVec 8) : Word :=
  (imm.setWidth 32).rotateRight (2 * rotate.toNat)

/-- The immediate operand with its carry-out (R266). -/
def immediateOperand (rotate : BitVec 4) (imm : BitVec 8) (c : Bool) : ShifterOut :=
  { value := rotatedImmediate rotate imm, carry := if rotate = 0 then c else (rotatedImmediate rotate imm).msb }

/-- The base moved by the offset: added with U = 1, subtracted with U = 0 (R342, R372). -/
def indexed (up : Bool) (base off : Word) : Word := if up then base + off else base - off

/-- The transfer address: the moved base when pre-indexed, the base when post-indexed (R342, R372). -/
def transferAddress (pre up : Bool) (base off : Word) : Word := if pre then indexed up base off else base

/-- Bits 1:0 of an address are 00. -/
def wordAligned (a : Word) : Bool := !a.getLsbD 1 && !a.getLsbD 0

/-- An address without its bits 1:0. -/
def wordBase (a : Word) : Word := a &&& 0xFFFFFFFC

/-- A loaded word rotated so that the addressed byte comes into place (spec/20_memory.md R90). -/
def rotateLoaded (w addr : Word) : Word := w.rotateRight (8 * (addr.extractLsb' 0 2).toNat)

/-- The register numbers of a list, in ascending order (R391). -/
def registerList (list : BitVec 16) : List RegNo :=
  ((List.range 16).filter fun k => list.getLsbD k).map fun k => BitVec.ofNat 4 k

/-- Four bytes for each of `n` registers. -/
def blockSize (n : Nat) : Word := BitVec.ofNat 32 (4 * n)

/-- The address of the first, lowest transfer (R392): IA, IB, DA and DB. -/
def blockStart (pre up : Bool) (base : Word) (n : Nat) : Word :=
  match pre, up with
  | false, true => base
  | true, true => base + 4
  | false, false => base - blockSize n + 4
  | true, false => base - blockSize n

/-- The value a block transfer writes back (R394). -/
def blockWriteBack (up : Bool) (base : Word) (n : Nat) : Word := indexed up base (blockSize n)

end Sys2Proof.Machine
end

