-- ==== Sys2Proof/Machine/Ops.lean ====
section
/-! DEFINITION. The named operations over registers, status registers and memory, taking an exception and returning
from one. Every meaning is built from these. -/

namespace Sys2Proof.Machine

/-! ### Modes -/

/-- The codes of M[4:0] (spec/10_state.md R47). -/
def modeBits : Mode → BitVec 5
  | .usr => 0b10000 | .fiq => 0b10001 | .irq => 0b10010 | .svc => 0b10011
  | .abt => 0b10111 | .und => 0b11011 | .sys => 0b11111
  | .usr26 => 0b00000 | .fiq26 => 0b00001 | .irq26 => 0b00010 | .svc26 => 0b00011

/-- The mode of a value of M[4:0]; twenty-one values are invalid (R48). -/
def modeOfBits (m : BitVec 5) : Option Mode :=
  if m = 0b10000 then some .usr
  else if m = 0b10001 then some .fiq
  else if m = 0b10010 then some .irq
  else if m = 0b10011 then some .svc
  else if m = 0b10111 then some .abt
  else if m = 0b11011 then some .und
  else if m = 0b11111 then some .sys
  else if m = 0b00000 then some .usr26
  else if m = 0b00001 then some .fiq26
  else if m = 0b00010 then some .irq26
  else if m = 0b00011 then some .svc26
  else none

/-- A 26-bit mode, M[4] = 0 (R47). -/
def is26 : Mode → Bool
  | .usr26 | .fiq26 | .irq26 | .svc26 => true
  | .usr | .fiq | .irq | .svc | .abt | .und | .sys => false

/-- A privileged mode: any but User and User 26-bit (R47, spec/00_scope.md R11). -/
def isPrivileged : Mode → Bool
  | .usr | .usr26 => false
  | .fiq | .irq | .svc | .abt | .und | .sys | .fiq26 | .irq26 | .svc26 => true

/-- The bank of R13 and R14 a mode sees (R31, R33). -/
def modeBank : Mode → Bank
  | .usr | .sys | .usr26 => .usr
  | .fiq | .fiq26 => .fiq
  | .irq | .irq26 => .irq
  | .svc | .svc26 => .svc
  | .abt => .abt
  | .und => .und

/-- The mode sees R8_fiq to R12_fiq (R31). -/
def isFiqMode : Mode → Bool
  | .fiq | .fiq26 => true
  | .usr | .irq | .svc | .abt | .und | .sys | .usr26 | .irq26 | .svc26 => false

/-! ### General registers -/

/-- A register of a bank. -/
def getBanked (r : Banked) : Bank → Word
  | .usr => r.usr | .fiq => r.fiq | .irq => r.irq | .svc => r.svc | .abt => r.abt | .und => r.und

/-- A register of a bank replaced. -/
def setBanked (r : Banked) (b : Bank) (v : Word) : Banked :=
  match b with
  | .usr => { r with usr := v }
  | .fiq => { r with fiq := v }
  | .irq => { r with irq := v }
  | .svc => { r with svc := v }
  | .abt => { r with abt := v }
  | .und => { r with und := v }

/-- The value of a physical register (R31). -/
def getPhys (s : State) : PhysReg → Word
  | .low k => s.regs.low[k]
  | .mid k => s.regs.mid[k]
  | .midFiq k => s.regs.midFiq[k]
  | .r13 b => getBanked s.regs.r13 b
  | .r14 b => getBanked s.regs.r14 b

/-- A physical register written. -/
def setPhys (s : State) (p : PhysReg) (v : Word) : State :=
  match p with
  | .low k => { s with regs := { s.regs with low := s.regs.low.set k v } }
  | .mid k => { s with regs := { s.regs with mid := s.regs.mid.set k v } }
  | .midFiq k => { s with regs := { s.regs with midFiq := s.regs.midFiq.set k v } }
  | .r13 b => { s with regs := { s.regs with r13 := setBanked s.regs.r13 b v } }
  | .r14 b => { s with regs := { s.regs with r14 := setBanked s.regs.r14 b v } }

/-- bank(m, i): the physical register a number names in a mode, none for R15 (R33). -/
def physReg (m : Mode) (i : RegNo) : Option PhysReg :=
  if h : i.toNat < 8 then some (.low ⟨i.toNat, h⟩)
  else if h : i.toNat < 13 then
    if isFiqMode m then some (.midFiq ⟨i.toNat - 8, by omega⟩) else some (.mid ⟨i.toNat - 8, by omega⟩)
  else if i.toNat = 13 then some (.r13 (modeBank m))
  else if i.toNat = 14 then some (.r14 (modeBank m))
  else none

/-- A register that is banked in an exception mode: what must not be read straight after a user-bank LDM
(spec/47_block_data_transfer.md R403). -/
def isExceptionBanked : PhysReg → Bool
  | .low _ | .mid _ => false
  | .midFiq _ => true
  | .r13 b | .r14 b => b != .usr

/-- The current instruction comes straight after a user-bank LDM (R403, log 24). -/
def hazardNow (s : State) : Bool := s.hazardStep == some s.tick

/-- R15 read as an operand: the address of the instruction plus 8 (spec/10_state.md R39, R41). -/
def pcOperand (s : State) : Word := s.pc + 8

/-- x[i]: the register seen from the current mode, read for operand `p`. A banked register read straight after a
user-bank LDM gives a free value (R33, R41, R403). -/
def readReg (s : State) (p : Port) (i : RegNo) : Word :=
  match physReg s.cpsr.mode i with
  | none => pcOperand s
  | some r => if hazardNow s && isExceptionBanked r then Config.freeWord s.tick (.bankedRead p r) else getPhys s r

/-- x[i] written, for i other than 15 (R33). -/
def writeReg (s : State) (i : RegNo) (v : Word) : State :=
  match physReg s.cpsr.mode i with
  | none => s
  | some r => setPhys s r v

/-- xu[i] read: the User bank whatever the mode; R15 gives the instruction's address plus 8 (R33, R402). -/
def readUserReg (s : State) (i : RegNo) : Word :=
  match physReg .usr i with
  | none => pcOperand s
  | some r => getPhys s r

/-- xu[i] written, for i other than 15 (R33, R403). -/
def writeUserReg (s : State) (i : RegNo) (v : Word) : State :=
  match physReg .usr i with
  | none => s
  | some r => setPhys s r v

/-! ### Status registers -/

/-- A PSR as MRS shows it, its reserved bits 27:8 and 5 taken from a free word (R44, R49, log 5). -/
def psrWord (p : Psr) (free : Word) : Word :=
  place (BitVec.ofBool p.n) 31 ||| place (BitVec.ofBool p.z) 30 ||| place (BitVec.ofBool p.c) 29
    ||| place (BitVec.ofBool p.v) 28 ||| place (BitVec.ofBool p.i) 7 ||| place (BitVec.ofBool p.f) 6 ||| place p.m 0
    ||| (free &&& 0x0FFFFF20)

/-- The CPSR as an SPSR holds it (R44). -/
def cpsrToPsr (p : Cpsr) : Psr := { n := p.n, z := p.z, c := p.c, v := p.v, i := p.i, f := p.f, m := modeBits p.mode }

/-- An SPSR as the CPSR holds it, none when its mode is invalid (R48). -/
def psrToCpsr (p : Psr) : Option Cpsr :=
  (modeOfBits p.m).map fun m => { n := p.n, z := p.z, c := p.c, v := p.v, i := p.i, f := p.f, mode := m }

/-- A word as a PSR: the defined bits, the reserved ones ignored (R44, R49). -/
def psrOfWord (w : Word) : Psr :=
  { n := w.getLsbD 31, z := w.getLsbD 30, c := w.getLsbD 29, v := w.getLsbD 28, i := w.getLsbD 7, f := w.getLsbD 6,
    m := field w 0 5 }

/-- The SPSR of a bank; the User bank has none (R32, R33). -/
def getSpsr (s : State) : Bank → Option Psr
  | .usr => none
  | .fiq => some s.spsr.fiq
  | .irq => some s.spsr.irq
  | .svc => some s.spsr.svc
  | .abt => some s.spsr.abt
  | .und => some s.spsr.und

/-- The SPSR of a bank written. -/
def setSpsr (s : State) (b : Bank) (p : Psr) : State :=
  match b with
  | .usr => s
  | .fiq => { s with spsr := { s.spsr with fiq := p } }
  | .irq => { s with spsr := { s.spsr with irq := p } }
  | .svc => { s with spsr := { s.spsr with svc := p } }
  | .abt => { s with spsr := { s.spsr with abt := p } }
  | .und => { s with spsr := { s.spsr with und := p } }

/-- SPSR: that of the current mode (R33). -/
def currentSpsr (s : State) : Option Psr := getSpsr s (modeBank s.cpsr.mode)

/-! ### The program counter -/

/-- An address as the PC of a mode holds it: bits 1:0 zero, and in a 26-bit mode the top 6 bits zero (R42, R43). -/
def pcOf (m : Mode) (t : Word) : Word := if is26 m then t &&& 0x03FFFFFC else t &&& 0xFFFFFFFC

/-- pc <- t (spec/00_scope.md R11): the fetch there is not sequential (spec/20_memory.md R103, log 16). -/
def branchTo (s : State) (t : Word) : State := { s with pc := pcOf s.cpsr.mode t, nextFetch := .nonSequential }

/-- On to the next instruction, modulo 2^32 (spec/40_conditional_execution.md R225, D11). 26-bit code must not run
sequentially past 0x03FFFFFC (spec/20_memory.md R82). -/
def advance (s : State) : Result :=
  if is26 s.cpsr.mode && s.pc == 0x03FFFFFC then .refused .sequentialWrap26
  else .next { s with pc := s.pc + 4, nextFetch := .sequential }

/-- A forbidden use is refused before anything else (spec/60_exceptions.md R532). -/
def refuseIf (b : Bool) (r : Refusal) (k : Result) : Result := if b then .refused r else k

/-- The condition test: an instruction whose condition fails only advances the PC (R13, R223). -/
def whenPassed (c : Cond) (s : State) (k : Result) : Result := if conditionPassed c s.cpsr then k else advance s

/-- The result of an instruction goes to Rd, and for R15 the PC is written (R42, R255, R256). -/
def writeResult (s : State) (rd : RegNo) (v : Word) : Result :=
  if rd = 15 then .next (branchTo s v) else advance (writeReg s rd v)

/-- The instruction at the PC would enter a 26-bit mode from a 32-bit one at an address outside the 26-bit address space
(spec/20_memory.md R82, spec/70_reset_and_hazards.md R613, log 40). -/
def enters26Outside (s : State) (m : Mode) : Bool :=
  is26 m && !is26 s.cpsr.mode && decide (0x03FFFFFF < s.pc.toNat)

/-- R15 is an operand in a 26-bit mode, which the spec leaves outside (R43, log 12). -/
def readsPc26 (s : State) (uses : Bool) : Bool := is26 s.cpsr.mode && uses

/-! ### Exceptions -/

/-- The mode an exception enters (spec/60_exceptions.md R501). -/
def excMode : Exc → Mode
  | .undefined => .und | .swi => .svc | .prefetchAbort => .abt | .dataAbort => .abt | .irq => .irq | .fiq => .fiq

/-- The vector of an exception (R503). -/
def excVector : Exc → Word
  | .undefined => 0x04 | .swi => 0x08 | .prefetchAbort => 0x0C | .dataAbort => 0x10 | .irq => 0x18 | .fiq => 0x1C

/-- A return address as R14 receives it: from a 26-bit mode only the PC, its top 6 bits zero (R540). -/
def returnAddress (m : Mode) (ret : Word) : Word := if is26 m then ret &&& 0x03FFFFFF else ret

/-- Taking an exception (R506, R540): R14 and the SPSR of the new mode are written, M is set, I is set, F is set by
FIQ, the flags are kept, the PC goes to the vector and the fetch there is not sequential (spec/20_memory.md R118). An
entry is no IMB: one that is owed stays owed (R125, R129, log 9). -/
def takeException (e : Exc) (ret : Word) (s : State) : State :=
  let m := excMode e
  let t := setSpsr (setPhys s (.r14 (modeBank m)) (returnAddress s.cpsr.mode ret)) (modeBank m) (cpsrToPsr s.cpsr)
  { t with
    cpsr := { s.cpsr with i := true, f := (if e = .fiq then true else s.cpsr.f), mode := m }
    pc := excVector e
    nextFetch := .nonSequential }

/-- The Undefined Instruction trap of the instruction at the PC (spec/49_coprocessor_undefined.md R471). -/
def takeUndefined (s : State) : State := takeException .undefined (s.pc + 4) s

/-- The Data Abort of the instruction at the PC (R512). -/
def takeDataAbort (s : State) : State := takeException .dataAbort (s.pc + 8) s

/-- The return from an exception: the SPSR of the current mode becomes the CPSR and the PC is written under the
restored mode (R535, spec/42_data_processing.md R257). A 26-bit mode must not be entered outside the 26-bit address space
(R82, log 40). -/
def returnFromException (s : State) (target : Word) (absent : Refusal) : Result :=
  match currentSpsr s with
  | none => .refused absent
  | some p =>
    match psrToCpsr p with
    | none => .refused .invalidMode
    | some q => refuseIf (enters26Outside s q.mode) .enter26Outside (.next (branchTo { s with cpsr := q } target))

/-! ### Memory -/

/-- What an address that memory does not list reads as: DESIGN CHOICE, log 6. -/
def unlistedByte : Byte := 0

/-- The byte at an address. -/
def Memory.read : Memory → Nat → Byte
  | [], _ => unlistedByte
  | (k, b) :: m, a => if k = a then b else Memory.read m a

/-- Memory without an address. -/
def Memory.erase : Memory → Nat → Memory
  | [], _ => []
  | (k, b) :: m, a => if k = a then Memory.erase m a else (k, b) :: Memory.erase m a

/-- An entry put before the first higher address. -/
def Memory.insert : Memory → Nat → Byte → Memory
  | [], a, v => [(a, v)]
  | (k, b) :: m, a, v => if a < k then (a, v) :: (k, b) :: m else (k, b) :: Memory.insert m a v

/-- The byte at an address written, in canonical form: the value an unlisted address reads as is not listed. -/
def Memory.write (m : Memory) (a : Nat) (v : Byte) : Memory :=
  if v = unlistedByte then m.erase a else (m.erase a).insert a v

/-- Addresses strictly rising from `lo`, below 2^32, and no entry equal to what an unlisted address reads as. -/
def Memory.wfFrom : Nat → Memory → Bool
  | _, [] => true
  | lo, (k, b) :: m => decide (lo ≤ k) && decide (k < 2 ^ 32) && b != unlistedByte && Memory.wfFrom (k + 1) m

/-- The canonical form of memory. -/
def Memory.wf (m : Memory) : Bool := Memory.wfFrom 0 m

/-- M[a] (spec/20_memory.md R80). -/
def byteAt (s : State) (a : Word) : Byte := s.mem.read a.toNat

/-- Word(A) for the word that contains an address, in the configured byte order (R85, R86). -/
def wordAt (s : State) (a : Word) : Word :=
  let b := wordBase a
  if s.bigend then byteAt s b ++ byteAt s (b + 1) ++ byteAt s (b + 2) ++ byteAt s (b + 3)
  else byteAt s (b + 3) ++ byteAt s (b + 2) ++ byteAt s (b + 1) ++ byteAt s b

/-- The halfword at an even address, in the configured byte order (R89). -/
def halfAt (s : State) (a : Word) : Half :=
  if s.bigend then byteAt s a ++ byteAt s (a + 1) else byteAt s (a + 1) ++ byteAt s a

/-- A word address put into a strictly rising list. -/
def insertStale (a : Nat) : List Nat → List Nat
  | [] => [a]
  | k :: l => if a < k then a :: k :: l else if a = k then k :: l else k :: insertStale a l

/-- The word address of a data write joins the stale set (R127). -/
def markStale (s : State) (a : Word) : State := { s with stale := insertStale (wordBase a).toNat s.stale }

/-- One byte of memory written, with no other effect. -/
def setByte (s : State) (a : Word) (v : Byte) : State := { s with mem := s.mem.write a.toNat v }

/-- The word that contains an address written, in the configured byte order (R93, D5). -/
def setWord (s : State) (a v : Word) : State :=
  let b := wordBase a
  let b0 := field v 0 8
  let b1 := field v 8 8
  let b2 := field v 16 8
  let b3 := field v 24 8
  if s.bigend then setByte (setByte (setByte (setByte s b b3) (b + 1) b2) (b + 2) b1) (b + 3) b0
  else setByte (setByte (setByte (setByte s b b0) (b + 1) b1) (b + 2) b2) (b + 3) b3

/-- The halfword at an even address written, in the configured byte order (R92). -/
def setHalf (s : State) (a : Word) (v : Half) : State :=
  let lo := v.extractLsb' 0 8
  let hi := v.extractLsb' 8 8
  if s.bigend then setByte (setByte s a hi) (a + 1) lo else setByte (setByte s a lo) (a + 1) hi

/-- A request of a store kind (R103). -/
def isStore : RequestKind → Bool
  | .fetch | .fetchS | .spec | .specS | .load | .loadM | .loadS | .loadSM | .loadB | .loadH | .loadX | .loadBX => false
  | .store | .storeM | .storeS | .storeSM | .storeB | .storeH | .storeX | .storeBX => true

/-- An optional attribute test: `none` tests nothing. -/
def attributeMeets (want : Option Bool) (got : Bool) : Bool :=
  match want with
  | none => true
  | some b => b == got

/-- A rule of the memory oracle aborts this request; a store cannot get an external abort (R100, R104). -/
def regionAborts (r : AbortRegion) (kind : RequestKind) (priv mode26 : Bool) (a : Word) : Bool :=
  decide (r.first ≤ a.toNat) && decide (a.toNat ≤ r.last) && r.kinds.contains kind
    && attributeMeets r.privileged priv && attributeMeets r.twentySix mode26 && !(r.external && isStore kind)

/-- The memory system answers this request with an abort (R100). -/
def requestAborts (s : State) (kind : RequestKind) (priv : Bool) (a : Word) : Bool :=
  s.abortMap.any fun r => regionAborts r kind priv (is26 s.cpsr.mode) a

/-- The `Privileged` attribute of an ordinary access (R101). -/
def privileged (s : State) : Bool := isPrivileged s.cpsr.mode

/-- MemRead of the word that contains `a`; `none` when the access aborts (R87, R105). -/
def loadWord (s : State) (kind : RequestKind) (priv : Bool) (a : Word) : Option Word :=
  if requestAborts s kind priv a then none else some (wordAt s a)

/-- MemRead of a byte (R88, R105). -/
def loadByte (s : State) (kind : RequestKind) (priv : Bool) (a : Word) : Option Byte :=
  if requestAborts s kind priv a then none else some (byteAt s a)

/-- MemRead of a halfword for a load into a register of 32 bits: from an odd address a free word (R89, R379). The
function given extends the halfword. -/
def loadHalf (s : State) (a : Word) (extend : Half → Word) : Option Word :=
  if requestAborts s .loadH (privileged s) a then none
  else if a.getLsbD 0 then some (Config.freeWord s.tick .oddHalfword)
  else some (extend (halfAt s a))

/-- MemWrite of a word; `none` when the access aborts, with memory as it was (R93, R106). -/
def storeWord (s : State) (kind : RequestKind) (priv : Bool) (a v : Word) : Option State :=
  if requestAborts s kind priv a then none else some (markStale (setWord s a v) a)

/-- MemWrite of a byte (R91, R106). -/
def storeByte (s : State) (kind : RequestKind) (priv : Bool) (a : Word) (v : Byte) : Option State :=
  if requestAborts s kind priv a then none else some (markStale (setByte s a v) a)

/-- MemWrite of a halfword at an even address (R92, R106). -/
def storeHalf (s : State) (a : Word) (v : Half) : Option State :=
  if requestAborts s .storeH (privileged s) a then none else some (markStale (setHalf s a v) a)

end Sys2Proof.Machine
end

