-- ==== Sys2Proof/Machine/BlockTransfer.lean ====
section
/-! DEFINITION. Block data transfer (spec/47_block_data_transfer.md). -/

namespace Sys2Proof.Machine

/-- The request kind of a load in a block: the first is not sequential, the last has no more words to follow
(spec/20_memory.md R103). -/
def blockLoadKind (first last : Bool) : RequestKind :=
  match first, last with
  | true, true => .load
  | true, false => .loadM
  | false, true => .loadS
  | false, false => .loadSM

/-- The request kind of a store in a block (R103). -/
def blockStoreKind (first last : Bool) : RequestKind :=
  match first, last with
  | true, true => .store
  | true, false => .storeM
  | false, true => .storeS
  | false, false => .storeSM

/-- What the reads of an LDM give: the words up to the first abort, and whether there was one (R396, R405). -/
structure BlockRead where
  loaded : List (RegNo × Word)
  aborted : Bool
  deriving DecidableEq, Repr

/-- The reads of an LDM, upwards from an address (R392, R396, R405). -/
def readBlock (s : State) : Bool → Word → List RegNo → BlockRead
  | _, _, [] => { loaded := [], aborted := false }
  | first, a, r :: rs =>
    match loadWord s (blockLoadKind first rs.isEmpty) (privileged s) a with
    | none => { loaded := [], aborted := true }
    | some w =>
      let rest := readBlock s false (a + 4) rs
      { rest with loaded := (r, w) :: rest.loaded }

/-- What the writes of an STM give: the state up to the first abort, and whether there was one (R397, R406). -/
structure BlockWrite where
  state : State
  aborted : Bool
  deriving DecidableEq, Repr

/-- The writes of an STM, upwards from an address (R392, R397, R406). -/
def writeBlock : State → Bool → Word → List Word → BlockWrite
  | s, _, _, [] => { state := s, aborted := false }
  | s, first, a, v :: vs =>
    match storeWord s (blockStoreKind first vs.isEmpty) (privileged s) a v with
    | none => { state := s, aborted := true }
    | some t => writeBlock t false (a + 4) vs

/-- Every loaded word written to its register, R15 left out (R396). -/
def writeLoaded (write : State → RegNo → Word → State) (s : State) (l : List (RegNo × Word)) : State :=
  l.foldl (fun t p => write t p.1 p.2) s

/-- The word loaded for R15, which is the last one (R396, R398). -/
def loadedPc (l : List (RegNo × Word)) : Word :=
  match l.getLast? with
  | none => 0
  | some p => p.2

/-- After an aborted LDM each register already loaded, other than the base, holds its old or its loaded value (R405,
log 25). -/
def keepOrLoad (phys : RegNo → Option PhysReg) (base : Option PhysReg) (s : State) (l : List (RegNo × Word)) : State :=
  l.foldl
    (fun t p =>
      match phys p.1 with
      | none => t
      | some r =>
        if some r = base then t else if Config.freeBit s.tick (.abortedLoad r) then setPhys t r p.2 else t)
    s

/-- The reads of a block load, then what follows them when none aborts (R396, R405). On the abort path no hazard is set,
for a user-bank LDM either (DESIGN CHOICE, log 24). -/
def blockLoad (phys : RegNo → Option PhysReg) (pre up : Bool) (rn : RegNo) (list : BitVec 16) (s : State)
    (k : Word → List (RegNo × Word) → Result) : Result :=
  let regs := registerList list
  let base := readReg s .n rn
  let r := readBlock s true (blockStart pre up base regs.length) regs
  if r.aborted then .next (takeDataAbort (keepOrLoad phys (physReg s.cpsr.mode rn) s r.loaded)) else k base r.loaded

/-- The checks of every block transfer (R404, R407). -/
def checkBlock (rn : RegNo) (list : BitVec 16) (k : Result) : Result :=
  refuseIf (rn == 15) .blockBaseR15 <| refuseIf (list == 0) .emptyRegisterList k

/-- The register state after the loads of an LDM into the current bank: write-back, then the loaded registers (R394,
R396). -/
def loadedState (s : State) (up wb : Bool) (rn : RegNo) (base : Word) (l : List (RegNo × Word)) : State :=
  writeLoaded writeReg (if wb then writeReg s rn (blockWriteBack up base l.length) else s) l

/-- A mode without an SPSR may not set the S bit (R400). -/
def sBitForbidden (s : State) : Bool := (currentSpsr s).isNone

/-- The value STM stores for a register: for the base, the old base if it is not written back or is the lowest register,
else a free word (R397, R399, log 27). -/
def stmValue (s : State) (wb : Bool) (rn : RegNo) (base : Word) (lowest : Option RegNo) (r : RegNo) : Word :=
  if r = rn then
    if wb && lowest != some r then Config.freeWord s.tick .storedBase else base
  else readReg s .d r

/-- The writes of a block store, the write-back when none aborts (R397, R406). -/
def blockStore (pre up wb : Bool) (rn : RegNo) (list : BitVec 16) (value : Word → RegNo → Word) (s : State) : Result :=
  let regs := registerList list
  let base := readReg s .n rn
  let w := writeBlock s true (blockStart pre up base regs.length) (regs.map (value base))
  if w.aborted then .next (takeDataAbort w.state)
  else advance (if wb then writeReg w.state rn (blockWriteBack up base regs.length) else w.state)

/-- LDM, Block Data Transfer (R396). -/
def execLdm (c : Cond) (pre up wb : Bool) (rn : RegNo) (list : BitVec 16) (s : State) : Result :=
  whenPassed c s <|
    checkBlock rn list <|
      refuseIf (wb && list.getLsbD rn.toNat) .loadMultipleBaseInList <|
        blockLoad (physReg s.cpsr.mode) pre up rn list s fun base l =>
          let t := loadedState s up wb rn base l
          if list.getLsbD 15 then .next (branchTo t (loadedPc l)) else advance t

/-- LDM, Block Data Transfer, S = 1, R15 in list (R401, in the 26-bit modes R408). -/
def execLdmPc (c : Cond) (pre up wb : Bool) (rn : RegNo) (list : BitVec 15) (s : State) : Result :=
  whenPassed c s <|
    checkBlock rn (1#1 ++ list) <|
      refuseIf (!is26 s.cpsr.mode && sBitForbidden s) .blockSBitWithoutSpsr <|
        refuseIf (wb && list.getLsbD rn.toNat) .loadMultipleBaseInList <|
          blockLoad (physReg s.cpsr.mode) pre up rn (1#1 ++ list) s fun base l =>
            let t := loadedState s up wb rn base l
            let v := loadedPc l
            if is26 s.cpsr.mode then .next (branchTo (setPsr26 t v) v)
            else returnFromException t v .blockSBitWithoutSpsr

/-- LDM, Block Data Transfer, S = 1, R15 not in list (R403). The hazard follows a load that completes; that one which takes
a Data Abort leaves none is DESIGN CHOICE, log 24. -/
def execLdmUser (c : Cond) (pre up wb : Bool) (rn : RegNo) (list : BitVec 15) (s : State) : Result :=
  whenPassed c s <|
    checkBlock rn (0#1 ++ list) <|
      refuseIf (sBitForbidden s) .blockSBitWithoutSpsr <|
        refuseIf wb .userBankWriteBack <|
          blockLoad (physReg .usr) pre up rn (0#1 ++ list) s fun _ l =>
            advance { writeLoaded writeUserReg s l with hazardStep := some (s.tick + 1) }

/-- STM, Block Data Transfer (R397). -/
def execStm (c : Cond) (pre up wb : Bool) (rn : RegNo) (list : BitVec 16) (s : State) : Result :=
  whenPassed c s <|
    checkBlock rn list <|
      refuseIf (readsPc26 s (list.getLsbD 15)) .r15ReadIn26BitMode <|
        blockStore pre up wb rn list (fun base => stmValue s wb rn base (registerList list).head?) s

/-- STM, Block Data Transfer, S = 1 (R402). -/
def execStmUser (c : Cond) (pre up wb : Bool) (rn : RegNo) (list : BitVec 16) (s : State) : Result :=
  whenPassed c s <|
    checkBlock rn list <|
      refuseIf (sBitForbidden s) .blockSBitWithoutSpsr <|
        refuseIf wb .userBankWriteBack <|
          refuseIf (readsPc26 s (list.getLsbD 15)) .r15ReadIn26BitMode <|
            blockStore pre up false rn list (fun _ => readUserReg s) s

end Sys2Proof.Machine
end

