-- ==== Sys2Proof/Machine/Branch.lean ====
section
/-! DEFINITION. Branch and Branch with Link (spec/41_branch.md). -/

namespace Sys2Proof.Machine

/-- The byte offset: the 24 bits shifted left two bits and sign extended (R241). -/
def branchOffset (offset : BitVec 24) : Word := offset.signExtend 32 <<< 2

/-- The target of a branch at the PC, modulo 2^32 (R241). -/
def branchTarget (s : State) (offset : BitVec 24) : Word := pcOperand s + branchOffset offset

/-- What BL writes to R14: the address of the next instruction, of which a 26-bit mode fixes bits 25:2 only (R242,
log 13). -/
def linkValue (s : State) : Word :=
  let next := pcOperand s - 4
  if is26 s.cpsr.mode then (next &&& 0x03FFFFFC) ||| (Config.freeWord s.tick .linkBits &&& 0xFC000003) else next

/-- B, Branch (R241). -/
def execB (c : Cond) (offset : BitVec 24) (s : State) : Result :=
  whenPassed c s (.next (branchTo s (branchTarget s offset)))

/-- BL, Branch (R242). -/
def execBl (c : Cond) (offset : BitVec 24) (s : State) : Result :=
  whenPassed c s (.next (branchTo (writeReg s 14 (linkValue s)) (branchTarget s offset)))

end Sys2Proof.Machine
end

