-- ==== Sys2Proof/Machine/Coprocessor.lean ====
section
/-! DEFINITION. The coprocessor instructions and the undefined classes (spec/49_coprocessor_undefined.md). -/

namespace Sys2Proof.Machine

/-- A busy-wait cycle of a reply: the instruction is held, still the next one to execute, with one cycle fewer to wait,
or as many when they never end (R461, log 39). A banked register is as unsafe to read in the next cycle as in this one
(spec/47_block_data_transfer.md R403). -/
def busyWait (r : CoprocReply) (rest : List CoprocReply) (s : State) : State :=
  { s with
    coproc := { r with waits := r.waits.map (· - 1) } :: rest
    nextFetch := .held
    hazardStep := if hazardNow s then some (s.tick + 1) else s.hazardStep }

/-- One cycle in which an instruction is offered to the coprocessors: busy-wait, then bounce into the Undefined
Instruction trap or accept (R452, R461, R463). With no reply left they bounce, the spec's default (D15, log 17). -/
def offer (s : State) (accepted : Word → State → Result) : Result :=
  match s.coproc with
  | [] => .next (takeUndefined s)
  | r :: rest =>
    if r.waits = some 0 then
      match r.answer with
      | .bounce => .next (takeUndefined { s with coproc := rest })
      | .accept d => accepted d { s with coproc := rest }
    else .next (busyWait r rest s)

/-- The offer of MRC or MCR, which only a coprocessor that exists may accept (R452, R464). -/
def offerTransfer (cp : BitVec 4) (s : State) (accepted : Word → State → Result) : Result :=
  offer s fun d t => refuseIf (!s.presentCps.contains cp) .absentCoprocessorAccepted (accepted d t)

/-- The offer of CDP, LDC or STC, which no coprocessor may accept (R450, R454, R455). -/
def offerUnsupported (s : State) : Result := offer s fun _ _ => .refused .coprocessorAccepted

/-- What the coprocessors are shown of an instruction: I[25:0] (R467). -/
def coprocInstr (i : Instr) : BitVec 26 := (encode i).extractLsb' 0 26

/-- The coprocessors execute an accepted instruction (R452). -/
def logCoproc (i : Instr) (data : Option Word) (s : State) : State :=
  { s with coprocLog := { instr := coprocInstr i, privileged := privileged s, data := data } :: s.coprocLog }

/-- A word of class B to E traps unless the parameter says otherwise (R470, D31, log 19). -/
def undefinedBtoE (s : State) : Result :=
  refuseIf (!s.trapClassesBtoE) .unallocatedTrapDisabled (.next (takeUndefined s))

/-- CDP, Coprocessor Data Operation (R454). -/
def execCdp (c : Cond) (_opc : BitVec 4) (_crn _crd : RegNo) (_cp : BitVec 4) (_info : BitVec 3) (_crm : RegNo)
    (s : State) : Result :=
  whenPassed c s (offerUnsupported s)

/-- LDC, Coprocessor Data Transfer (R455). -/
def execLdc (c : Cond) (_pre _up _long _wb : Bool) (_rn _crd : RegNo) (_cp : BitVec 4) (_offset : BitVec 8)
    (s : State) : Result :=
  whenPassed c s (offerUnsupported s)

/-- STC, Coprocessor Data Transfer (R455). -/
def execStc (c : Cond) (_pre _up _long _wb : Bool) (_rn _crd : RegNo) (_cp : BitVec 4) (_offset : BitVec 8)
    (s : State) : Result :=
  whenPassed c s (offerUnsupported s)

/-- MRC, Coprocessor Register Transfer (R457, with Rd = 15 R458). -/
def execMrc (c : Cond) (opc : BitVec 3) (crn rd : RegNo) (cp : BitVec 4) (info : BitVec 3) (crm : RegNo)
    (s : State) : Result :=
  whenPassed c s <|
    offerTransfer cp s fun d t =>
      let u := logCoproc (.mrc c opc crn rd cp info crm) none t
      if rd = 15 then advance (setFlagBits u d) else advance (writeReg u rd d)

/-- MCR, Coprocessor Register Transfer (R460). -/
def execMcr (c : Cond) (opc : BitVec 3) (crn rd : RegNo) (cp : BitVec 4) (info : BitVec 3) (crm : RegNo)
    (s : State) : Result :=
  whenPassed c s <|
    refuseIf (rd == 15) .mcrFromR15 <|
      offerTransfer cp s fun _ t =>
        let v := readReg s .d rd
        let u := logCoproc (.mcr c opc crn rd cp info crm) (some v) t
        advance { u with controlLog := v :: u.controlLog }

/-- UNDEFINED_A, Undefined instruction trap, Table 4-6 class A (R470). -/
def execUndefinedA (c : Cond) (_bits : BitVec 28) (s : State) : Result :=
  whenPassed c s (.next (takeUndefined s))

/-- UNDEFINED_B, Undefined instruction trap, Table 4-6 class B (R470). -/
def execUndefinedB1 (c : Cond) (_bits : BitVec 28) (s : State) : Result :=
  whenPassed c s (undefinedBtoE s)

/-- UNDEFINED_B, Undefined instruction trap, Table 4-6 class B (R470). -/
def execUndefinedB2 (c : Cond) (_bits : BitVec 28) (s : State) : Result :=
  whenPassed c s (undefinedBtoE s)

/-- UNDEFINED_B, Undefined instruction trap, Table 4-6 class B (R470). -/
def execUndefinedB3 (c : Cond) (_bits : BitVec 28) (s : State) : Result :=
  whenPassed c s (undefinedBtoE s)

/-- UNDEFINED_B, Undefined instruction trap, Table 4-6 class B (R470). -/
def execUndefinedB4 (c : Cond) (_bits : BitVec 28) (s : State) : Result :=
  whenPassed c s (undefinedBtoE s)

/-- UNDEFINED_B, Undefined instruction trap, Table 4-6 class B (R470). -/
def execUndefinedB5 (c : Cond) (_bits : BitVec 28) (s : State) : Result :=
  whenPassed c s (undefinedBtoE s)

/-- UNDEFINED_C, Undefined instruction trap, Table 4-6 class C (R470). -/
def execUndefinedC (c : Cond) (_bits : BitVec 28) (s : State) : Result :=
  whenPassed c s (undefinedBtoE s)

/-- UNDEFINED_D, Undefined instruction trap, Table 4-6 class D (R470). -/
def execUndefinedD1 (c : Cond) (_bits : BitVec 28) (s : State) : Result :=
  whenPassed c s (undefinedBtoE s)

/-- UNDEFINED_D, Undefined instruction trap, Table 4-6 class D (R470). -/
def execUndefinedD2 (c : Cond) (_bits : BitVec 28) (s : State) : Result :=
  whenPassed c s (undefinedBtoE s)

/-- UNDEFINED_D, Undefined instruction trap, Table 4-6 class D (R470). -/
def execUndefinedD3 (c : Cond) (_bits : BitVec 28) (s : State) : Result :=
  whenPassed c s (undefinedBtoE s)

/-- UNDEFINED_E, Undefined instruction trap, Table 4-6 class E (R470). -/
def execUndefinedE1 (c : Cond) (_bits : BitVec 28) (s : State) : Result :=
  whenPassed c s (undefinedBtoE s)

/-- UNDEFINED_E, Undefined instruction trap, Table 4-6 class E (R470). -/
def execUndefinedE2 (c : Cond) (_bits : BitVec 28) (s : State) : Result :=
  whenPassed c s (undefinedBtoE s)

/-- UNDEFINED_E, Undefined instruction trap, Table 4-6 class E (R470). -/
def execUndefinedE3 (c : Cond) (_bits : BitVec 28) (s : State) : Result :=
  whenPassed c s (undefinedBtoE s)

/-- UNDEFINED_E, Undefined instruction trap, Table 4-6 class E (R470). -/
def execUndefinedE4 (c : Cond) (_bits : BitVec 28) (s : State) : Result :=
  whenPassed c s (undefinedBtoE s)

end Sys2Proof.Machine
end

