-- ==== Sys2Proof/Machine/DataProcessing.lean ====
section
/-! DEFINITION. Data processing (spec/42_data_processing.md): the sixteen operations in their three operand forms, the
writes of R15, and the P forms of the 26-bit modes. -/

namespace Sys2Proof.Machine

/-- Where the result of an operation goes (R252): a test sets the flags, or in a 26-bit mode with Rd = 1111 the PSR
(R283, R284); R15 is a jump, with S a return from exception, or in a 26-bit mode a jump that sets the PSR (R256, R257,
R285); any other register is written, with S the flags too (R255). -/
def finishAlu (op : AluOp) (sb : Bool) (rd : RegNo) (r : AluResult) (s : State) : Result :=
  if op.isTest then
    if rd = 15 then
      if is26 s.cpsr.mode then advance (setPsr26 s r.value) else .refused .testPIn32BitMode
    else advance (setAluFlags s r)
  else if rd = 15 then
    if sb then
      if is26 s.cpsr.mode then .next (branchTo (setPsr26 s r.value) r.value)
      else returnFromException s r.value .returnWithoutSpsr
    else .next (branchTo s r.value)
  else if sb then advance (writeReg (setAluFlags s r) rd r.value)
  else advance (writeReg s rd r.value)

/-- An operation on Rn and a second operand, every register and flag read before any write (R251, R252). -/
def dataProcessing (op : AluOp) (sb : Bool) (rn rd : RegNo) (b : ShifterOut) (s : State) : Result :=
  finishAlu op sb rd (aluEval op (readReg s .n rn) b.value s.cpsr.c b.carry s.cpsr.v) s

/-- Rn is R15 and the operation reads it. -/
def readsRn15 (op : AluOp) (rn : RegNo) : Bool := !op.ignoresRn && rn == 15

/-- The immediate form (R251, R266); R15 is not read in a 26-bit mode (spec/10_state.md R43). -/
def aluImm (op : AluOp) (sb : Bool) (rn rd : RegNo) (rotate : BitVec 4) (imm : BitVec 8) (s : State) : Result :=
  refuseIf (readsPc26 s (readsRn15 op rn)) .r15ReadIn26BitMode <|
    dataProcessing op sb rn rd (immediateOperand rotate imm s.cpsr.c) s

/-- The form with a register shifted by an amount in the instruction (R251, R258, R260 to R264). -/
def aluShiftImm (op : AluOp) (sb : Bool) (rn rd : RegNo) (amount : BitVec 5) (ty : ShiftType) (rm : RegNo)
    (s : State) : Result :=
  refuseIf (readsPc26 s (readsRn15 op rn || rm == 15)) .r15ReadIn26BitMode <|
    dataProcessing op sb rn rd (shiftByImmediate ty (readReg s .m rm) amount.toNat s.cpsr.c) s

/-- The form with a register shifted by the bottom byte of a register; none of the registers read may be R15 (R251,
R258, R265). -/
def aluShiftReg (op : AluOp) (sb : Bool) (rn rd rs : RegNo) (ty : ShiftType) (rm : RegNo) (s : State) : Result :=
  refuseIf (rs == 15 || rm == 15 || readsRn15 op rn) .registerShiftUsesR15 <|
    dataProcessing op sb rn rd
      (shiftByRegister ty (readReg s .m rm) ((readReg s .s rs).extractLsb' 0 8).toNat s.cpsr.c) s

/-- AND, Data Processing, immediate operand (R267). -/
def execAndImm (c : Cond) (sb : Bool) (rn rd : RegNo) (rotate : BitVec 4) (imm : BitVec 8) (s : State) : Result :=
  whenPassed c s (aluImm .and sb rn rd rotate imm s)

/-- AND, Data Processing, register operand, immediate shift (R267). -/
def execAndShiftImm (c : Cond) (sb : Bool) (rn rd : RegNo) (amount : BitVec 5) (ty : ShiftType) (rm : RegNo)
    (s : State) : Result :=
  whenPassed c s (aluShiftImm .and sb rn rd amount ty rm s)

/-- AND, Data Processing, register operand, register shift (R267). -/
def execAndShiftReg (c : Cond) (sb : Bool) (rn rd rs : RegNo) (ty : ShiftType) (rm : RegNo) (s : State) : Result :=
  whenPassed c s (aluShiftReg .and sb rn rd rs ty rm s)

/-- EOR, Data Processing, immediate operand (R268). -/
def execEorImm (c : Cond) (sb : Bool) (rn rd : RegNo) (rotate : BitVec 4) (imm : BitVec 8) (s : State) : Result :=
  whenPassed c s (aluImm .eor sb rn rd rotate imm s)

/-- EOR, Data Processing, register operand, immediate shift (R268). -/
def execEorShiftImm (c : Cond) (sb : Bool) (rn rd : RegNo) (amount : BitVec 5) (ty : ShiftType) (rm : RegNo)
    (s : State) : Result :=
  whenPassed c s (aluShiftImm .eor sb rn rd amount ty rm s)

/-- EOR, Data Processing, register operand, register shift (R268). -/
def execEorShiftReg (c : Cond) (sb : Bool) (rn rd rs : RegNo) (ty : ShiftType) (rm : RegNo) (s : State) : Result :=
  whenPassed c s (aluShiftReg .eor sb rn rd rs ty rm s)

/-- SUB, Data Processing, immediate operand (R269). -/
def execSubImm (c : Cond) (sb : Bool) (rn rd : RegNo) (rotate : BitVec 4) (imm : BitVec 8) (s : State) : Result :=
  whenPassed c s (aluImm .sub sb rn rd rotate imm s)

/-- SUB, Data Processing, register operand, immediate shift (R269). -/
def execSubShiftImm (c : Cond) (sb : Bool) (rn rd : RegNo) (amount : BitVec 5) (ty : ShiftType) (rm : RegNo)
    (s : State) : Result :=
  whenPassed c s (aluShiftImm .sub sb rn rd amount ty rm s)

/-- SUB, Data Processing, register operand, register shift (R269). -/
def execSubShiftReg (c : Cond) (sb : Bool) (rn rd rs : RegNo) (ty : ShiftType) (rm : RegNo) (s : State) : Result :=
  whenPassed c s (aluShiftReg .sub sb rn rd rs ty rm s)

/-- RSB, Data Processing, immediate operand (R270). -/
def execRsbImm (c : Cond) (sb : Bool) (rn rd : RegNo) (rotate : BitVec 4) (imm : BitVec 8) (s : State) : Result :=
  whenPassed c s (aluImm .rsb sb rn rd rotate imm s)

/-- RSB, Data Processing, register operand, immediate shift (R270). -/
def execRsbShiftImm (c : Cond) (sb : Bool) (rn rd : RegNo) (amount : BitVec 5) (ty : ShiftType) (rm : RegNo)
    (s : State) : Result :=
  whenPassed c s (aluShiftImm .rsb sb rn rd amount ty rm s)

/-- RSB, Data Processing, register operand, register shift (R270). -/
def execRsbShiftReg (c : Cond) (sb : Bool) (rn rd rs : RegNo) (ty : ShiftType) (rm : RegNo) (s : State) : Result :=
  whenPassed c s (aluShiftReg .rsb sb rn rd rs ty rm s)

/-- ADD, Data Processing, immediate operand (R271). -/
def execAddImm (c : Cond) (sb : Bool) (rn rd : RegNo) (rotate : BitVec 4) (imm : BitVec 8) (s : State) : Result :=
  whenPassed c s (aluImm .add sb rn rd rotate imm s)

/-- ADD, Data Processing, register operand, immediate shift (R271). -/
def execAddShiftImm (c : Cond) (sb : Bool) (rn rd : RegNo) (amount : BitVec 5) (ty : ShiftType) (rm : RegNo)
    (s : State) : Result :=
  whenPassed c s (aluShiftImm .add sb rn rd amount ty rm s)

/-- ADD, Data Processing, register operand, register shift (R271). -/
def execAddShiftReg (c : Cond) (sb : Bool) (rn rd rs : RegNo) (ty : ShiftType) (rm : RegNo) (s : State) : Result :=
  whenPassed c s (aluShiftReg .add sb rn rd rs ty rm s)

/-- ADC, Data Processing, immediate operand (R272). -/
def execAdcImm (c : Cond) (sb : Bool) (rn rd : RegNo) (rotate : BitVec 4) (imm : BitVec 8) (s : State) : Result :=
  whenPassed c s (aluImm .adc sb rn rd rotate imm s)

/-- ADC, Data Processing, register operand, immediate shift (R272). -/
def execAdcShiftImm (c : Cond) (sb : Bool) (rn rd : RegNo) (amount : BitVec 5) (ty : ShiftType) (rm : RegNo)
    (s : State) : Result :=
  whenPassed c s (aluShiftImm .adc sb rn rd amount ty rm s)

/-- ADC, Data Processing, register operand, register shift (R272). -/
def execAdcShiftReg (c : Cond) (sb : Bool) (rn rd rs : RegNo) (ty : ShiftType) (rm : RegNo) (s : State) : Result :=
  whenPassed c s (aluShiftReg .adc sb rn rd rs ty rm s)

/-- SBC, Data Processing, immediate operand (R273). -/
def execSbcImm (c : Cond) (sb : Bool) (rn rd : RegNo) (rotate : BitVec 4) (imm : BitVec 8) (s : State) : Result :=
  whenPassed c s (aluImm .sbc sb rn rd rotate imm s)

/-- SBC, Data Processing, register operand, immediate shift (R273). -/
def execSbcShiftImm (c : Cond) (sb : Bool) (rn rd : RegNo) (amount : BitVec 5) (ty : ShiftType) (rm : RegNo)
    (s : State) : Result :=
  whenPassed c s (aluShiftImm .sbc sb rn rd amount ty rm s)

/-- SBC, Data Processing, register operand, register shift (R273). -/
def execSbcShiftReg (c : Cond) (sb : Bool) (rn rd rs : RegNo) (ty : ShiftType) (rm : RegNo) (s : State) : Result :=
  whenPassed c s (aluShiftReg .sbc sb rn rd rs ty rm s)

/-- RSC, Data Processing, immediate operand (R274). -/
def execRscImm (c : Cond) (sb : Bool) (rn rd : RegNo) (rotate : BitVec 4) (imm : BitVec 8) (s : State) : Result :=
  whenPassed c s (aluImm .rsc sb rn rd rotate imm s)

/-- RSC, Data Processing, register operand, immediate shift (R274). -/
def execRscShiftImm (c : Cond) (sb : Bool) (rn rd : RegNo) (amount : BitVec 5) (ty : ShiftType) (rm : RegNo)
    (s : State) : Result :=
  whenPassed c s (aluShiftImm .rsc sb rn rd amount ty rm s)

/-- RSC, Data Processing, register operand, register shift (R274). -/
def execRscShiftReg (c : Cond) (sb : Bool) (rn rd rs : RegNo) (ty : ShiftType) (rm : RegNo) (s : State) : Result :=
  whenPassed c s (aluShiftReg .rsc sb rn rd rs ty rm s)

/-- TST, Data Processing, immediate operand (R275). -/
def execTstImm (c : Cond) (rn rd : RegNo) (rotate : BitVec 4) (imm : BitVec 8) (s : State) : Result :=
  whenPassed c s (aluImm .tst true rn rd rotate imm s)

/-- TST, Data Processing, register operand, immediate shift (R275). -/
def execTstShiftImm (c : Cond) (rn rd : RegNo) (amount : BitVec 5) (ty : ShiftType) (rm : RegNo) (s : State) : Result :=
  whenPassed c s (aluShiftImm .tst true rn rd amount ty rm s)

/-- TST, Data Processing, register operand, register shift (R275). -/
def execTstShiftReg (c : Cond) (rn rd rs : RegNo) (ty : ShiftType) (rm : RegNo) (s : State) : Result :=
  whenPassed c s (aluShiftReg .tst true rn rd rs ty rm s)

/-- TEQ, Data Processing, immediate operand (R276). -/
def execTeqImm (c : Cond) (rn rd : RegNo) (rotate : BitVec 4) (imm : BitVec 8) (s : State) : Result :=
  whenPassed c s (aluImm .teq true rn rd rotate imm s)

/-- TEQ, Data Processing, register operand, immediate shift (R276). -/
def execTeqShiftImm (c : Cond) (rn rd : RegNo) (amount : BitVec 5) (ty : ShiftType) (rm : RegNo) (s : State) : Result :=
  whenPassed c s (aluShiftImm .teq true rn rd amount ty rm s)

/-- TEQ, Data Processing, register operand, register shift (R276). -/
def execTeqShiftReg (c : Cond) (rn rd rs : RegNo) (ty : ShiftType) (rm : RegNo) (s : State) : Result :=
  whenPassed c s (aluShiftReg .teq true rn rd rs ty rm s)

/-- CMP, Data Processing, immediate operand (R277). -/
def execCmpImm (c : Cond) (rn rd : RegNo) (rotate : BitVec 4) (imm : BitVec 8) (s : State) : Result :=
  whenPassed c s (aluImm .cmp true rn rd rotate imm s)

/-- CMP, Data Processing, register operand, immediate shift (R277). -/
def execCmpShiftImm (c : Cond) (rn rd : RegNo) (amount : BitVec 5) (ty : ShiftType) (rm : RegNo) (s : State) : Result :=
  whenPassed c s (aluShiftImm .cmp true rn rd amount ty rm s)

/-- CMP, Data Processing, register operand, register shift (R277). -/
def execCmpShiftReg (c : Cond) (rn rd rs : RegNo) (ty : ShiftType) (rm : RegNo) (s : State) : Result :=
  whenPassed c s (aluShiftReg .cmp true rn rd rs ty rm s)

/-- CMN, Data Processing, immediate operand (R278). -/
def execCmnImm (c : Cond) (rn rd : RegNo) (rotate : BitVec 4) (imm : BitVec 8) (s : State) : Result :=
  whenPassed c s (aluImm .cmn true rn rd rotate imm s)

/-- CMN, Data Processing, register operand, immediate shift (R278). -/
def execCmnShiftImm (c : Cond) (rn rd : RegNo) (amount : BitVec 5) (ty : ShiftType) (rm : RegNo) (s : State) : Result :=
  whenPassed c s (aluShiftImm .cmn true rn rd amount ty rm s)

/-- CMN, Data Processing, register operand, register shift (R278). -/
def execCmnShiftReg (c : Cond) (rn rd rs : RegNo) (ty : ShiftType) (rm : RegNo) (s : State) : Result :=
  whenPassed c s (aluShiftReg .cmn true rn rd rs ty rm s)

/-- ORR, Data Processing, immediate operand (R279). -/
def execOrrImm (c : Cond) (sb : Bool) (rn rd : RegNo) (rotate : BitVec 4) (imm : BitVec 8) (s : State) : Result :=
  whenPassed c s (aluImm .orr sb rn rd rotate imm s)

/-- ORR, Data Processing, register operand, immediate shift (R279). -/
def execOrrShiftImm (c : Cond) (sb : Bool) (rn rd : RegNo) (amount : BitVec 5) (ty : ShiftType) (rm : RegNo)
    (s : State) : Result :=
  whenPassed c s (aluShiftImm .orr sb rn rd amount ty rm s)

/-- ORR, Data Processing, register operand, register shift (R279). -/
def execOrrShiftReg (c : Cond) (sb : Bool) (rn rd rs : RegNo) (ty : ShiftType) (rm : RegNo) (s : State) : Result :=
  whenPassed c s (aluShiftReg .orr sb rn rd rs ty rm s)

/-- MOV, Data Processing, immediate operand (R280). -/
def execMovImm (c : Cond) (sb : Bool) (rn rd : RegNo) (rotate : BitVec 4) (imm : BitVec 8) (s : State) : Result :=
  whenPassed c s (aluImm .mov sb rn rd rotate imm s)

/-- MOV, Data Processing, register operand, immediate shift (R280). -/
def execMovShiftImm (c : Cond) (sb : Bool) (rn rd : RegNo) (amount : BitVec 5) (ty : ShiftType) (rm : RegNo)
    (s : State) : Result :=
  whenPassed c s (aluShiftImm .mov sb rn rd amount ty rm s)

/-- MOV, Data Processing, register operand, register shift (R280). -/
def execMovShiftReg (c : Cond) (sb : Bool) (rn rd rs : RegNo) (ty : ShiftType) (rm : RegNo) (s : State) : Result :=
  whenPassed c s (aluShiftReg .mov sb rn rd rs ty rm s)

/-- BIC, Data Processing, immediate operand (R281). -/
def execBicImm (c : Cond) (sb : Bool) (rn rd : RegNo) (rotate : BitVec 4) (imm : BitVec 8) (s : State) : Result :=
  whenPassed c s (aluImm .bic sb rn rd rotate imm s)

/-- BIC, Data Processing, register operand, immediate shift (R281). -/
def execBicShiftImm (c : Cond) (sb : Bool) (rn rd : RegNo) (amount : BitVec 5) (ty : ShiftType) (rm : RegNo)
    (s : State) : Result :=
  whenPassed c s (aluShiftImm .bic sb rn rd amount ty rm s)

/-- BIC, Data Processing, register operand, register shift (R281). -/
def execBicShiftReg (c : Cond) (sb : Bool) (rn rd rs : RegNo) (ty : ShiftType) (rm : RegNo) (s : State) : Result :=
  whenPassed c s (aluShiftReg .bic sb rn rd rs ty rm s)

/-- MVN, Data Processing, immediate operand (R282). -/
def execMvnImm (c : Cond) (sb : Bool) (rn rd : RegNo) (rotate : BitVec 4) (imm : BitVec 8) (s : State) : Result :=
  whenPassed c s (aluImm .mvn sb rn rd rotate imm s)

/-- MVN, Data Processing, register operand, immediate shift (R282). -/
def execMvnShiftImm (c : Cond) (sb : Bool) (rn rd : RegNo) (amount : BitVec 5) (ty : ShiftType) (rm : RegNo)
    (s : State) : Result :=
  whenPassed c s (aluShiftImm .mvn sb rn rd amount ty rm s)

/-- MVN, Data Processing, register operand, register shift (R282). -/
def execMvnShiftReg (c : Cond) (sb : Bool) (rn rd rs : RegNo) (ty : ShiftType) (rm : RegNo) (s : State) : Result :=
  whenPassed c s (aluShiftReg .mvn sb rn rd rs ty rm s)

end Sys2Proof.Machine
end

