-- ==== Sys2Proof/Machine/SingleTransfer.lean ====
section
/-! DEFINITION. Single data transfer (spec/45_single_data_transfer.md): LDR, LDRB, STR, STRB and their T forms, with
immediate and register offsets. `pre` is P; a post-indexed form always writes back (R342). -/

namespace Sys2Proof.Machine

/-- The base register receives the moved base (R342). -/
def writesBack (pre wb : Bool) : Bool := !pre || wb

/-- The base register after the transfer (R342). -/
def writeBack (s : State) (pre wb : Bool) (rn : RegNo) (v : Word) : State :=
  if writesBack pre wb then writeReg s rn v else s

/-- The register a store stores; with write-back into that register the value is free (R345, R355, log 27). -/
def storedValue (s : State) (pre wb : Bool) (rn rd : RegNo) : Word :=
  if writesBack pre wb && rd == rn then Config.freeWord s.tick .storedBase else readReg s .d rd

/-- The uses of registers the class forbids (R348, R349, R353; spec/10_state.md R43). -/
def checkSingle (load byte pre wb : Bool) (rn rd : RegNo) (s : State) (k : Result) : Result :=
  refuseIf (writesBack pre wb && rn == 15) .writeBackToR15 <|
    refuseIf (byte && rd == 15) .byteTransferOfR15 <|
      refuseIf (load && writesBack pre wb && rd == rn) .loadWriteBackToDestination <|
        refuseIf (readsPc26 s (rn == 15 || (!load && rd == 15))) .r15ReadIn26BitMode k

/-- The offset registers the class forbids (R352, R353). -/
def checkOffset (pre : Bool) (rn rm : RegNo) (k : Result) : Result :=
  refuseIf (rm == 15) .offsetRegisterR15 <| refuseIf (!pre && rm == rn) .postIndexBaseIsOffset k

/-- The register offset, shifted by an amount in the instruction (R341). -/
def shiftedOffset (s : State) (amount : BitVec 5) (ty : ShiftType) (rm : RegNo) : Word :=
  (shiftByImmediate ty (readReg s .m rm) amount.toNat s.cpsr.c).value

/-- The word loads: the rotated word goes to Rd after the write-back; R15 needs an aligned address (R343, R350,
R354). -/
def loadWordReg (priv pre up wb : Bool) (rn rd : RegNo) (off : Word) (s : State) : Result :=
  checkSingle true false pre wb rn rd s <|
    let base := readReg s .n rn
    let addr := transferAddress pre up base off
    refuseIf (rd == 15 && !wordAligned addr) .misalignedPcTransfer <|
      match loadWord s .load priv addr with
      | none => .next (takeDataAbort s)
      | some w => writeResult (writeBack s pre wb rn (indexed up base off)) rd (rotateLoaded w addr)

/-- The byte loads, zero-extended (R344, R349, R354). -/
def loadByteReg (priv pre up wb : Bool) (rn rd : RegNo) (off : Word) (s : State) : Result :=
  checkSingle true true pre wb rn rd s <|
    let base := readReg s .n rn
    match loadByte s .loadB priv (transferAddress pre up base off) with
    | none => .next (takeDataAbort s)
    | some b => advance (writeReg (writeBack s pre wb rn (indexed up base off)) rd (b.setWidth 32))

/-- The word stores (R345, R351, R354). -/
def storeWordReg (priv pre up wb : Bool) (rn rd : RegNo) (off : Word) (s : State) : Result :=
  checkSingle false false pre wb rn rd s <|
    let base := readReg s .n rn
    let addr := transferAddress pre up base off
    refuseIf (rd == 15 && !wordAligned addr) .misalignedPcTransfer <|
      match storeWord s .store priv addr (storedValue s pre wb rn rd) with
      | none => .next (takeDataAbort s)
      | some t => advance (writeBack t pre wb rn (indexed up base off))

/-- The byte stores (R346, R349, R354). -/
def storeByteReg (priv pre up wb : Bool) (rn rd : RegNo) (off : Word) (s : State) : Result :=
  checkSingle false true pre wb rn rd s <|
    let base := readReg s .n rn
    match storeByte s .storeB priv (transferAddress pre up base off) (field (storedValue s pre wb rn rd) 0 8) with
    | none => .next (takeDataAbort s)
    | some t => advance (writeBack t pre wb rn (indexed up base off))

/-- LDR, Single Data Transfer, immediate offset, pre-indexed (R343). -/
def execLdrImmPre (c : Cond) (up wb : Bool) (rn rd : RegNo) (offset : BitVec 12) (s : State) : Result :=
  whenPassed c s (loadWordReg (privileged s) true up wb rn rd (offset.setWidth 32) s)

/-- LDR, Single Data Transfer, immediate offset, post-indexed (R343). -/
def execLdrImmPost (c : Cond) (up : Bool) (rn rd : RegNo) (offset : BitVec 12) (s : State) : Result :=
  whenPassed c s (loadWordReg (privileged s) false up false rn rd (offset.setWidth 32) s)

/-- LDRT, Single Data Transfer, immediate offset, post-indexed, W = 1 (R347). -/
def execLdrtImm (c : Cond) (up : Bool) (rn rd : RegNo) (offset : BitVec 12) (s : State) : Result :=
  whenPassed c s (loadWordReg false false up true rn rd (offset.setWidth 32) s)

/-- LDR, Single Data Transfer, register offset, pre-indexed (R343). -/
def execLdrRegPre (c : Cond) (up wb : Bool) (rn rd : RegNo) (amount : BitVec 5) (ty : ShiftType) (rm : RegNo)
    (s : State) : Result :=
  whenPassed c s (checkOffset true rn rm (loadWordReg (privileged s) true up wb rn rd (shiftedOffset s amount ty rm) s))

/-- LDR, Single Data Transfer, register offset, post-indexed (R343). -/
def execLdrRegPost (c : Cond) (up : Bool) (rn rd : RegNo) (amount : BitVec 5) (ty : ShiftType) (rm : RegNo)
    (s : State) : Result :=
  whenPassed c s (checkOffset false rn rm (loadWordReg (privileged s) false up false rn rd (shiftedOffset s amount ty rm) s))

/-- LDRT, Single Data Transfer, register offset, post-indexed, W = 1 (R347). -/
def execLdrtReg (c : Cond) (up : Bool) (rn rd : RegNo) (amount : BitVec 5) (ty : ShiftType) (rm : RegNo)
    (s : State) : Result :=
  whenPassed c s (checkOffset false rn rm (loadWordReg false false up true rn rd (shiftedOffset s amount ty rm) s))

/-- LDRB, Single Data Transfer, immediate offset, pre-indexed (R344). -/
def execLdrbImmPre (c : Cond) (up wb : Bool) (rn rd : RegNo) (offset : BitVec 12) (s : State) : Result :=
  whenPassed c s (loadByteReg (privileged s) true up wb rn rd (offset.setWidth 32) s)

/-- LDRB, Single Data Transfer, immediate offset, post-indexed (R344). -/
def execLdrbImmPost (c : Cond) (up : Bool) (rn rd : RegNo) (offset : BitVec 12) (s : State) : Result :=
  whenPassed c s (loadByteReg (privileged s) false up false rn rd (offset.setWidth 32) s)

/-- LDRBT, Single Data Transfer, immediate offset, post-indexed, W = 1 (R347). -/
def execLdrbtImm (c : Cond) (up : Bool) (rn rd : RegNo) (offset : BitVec 12) (s : State) : Result :=
  whenPassed c s (loadByteReg false false up true rn rd (offset.setWidth 32) s)

/-- LDRB, Single Data Transfer, register offset, pre-indexed (R344). -/
def execLdrbRegPre (c : Cond) (up wb : Bool) (rn rd : RegNo) (amount : BitVec 5) (ty : ShiftType) (rm : RegNo)
    (s : State) : Result :=
  whenPassed c s (checkOffset true rn rm (loadByteReg (privileged s) true up wb rn rd (shiftedOffset s amount ty rm) s))

/-- LDRB, Single Data Transfer, register offset, post-indexed (R344). -/
def execLdrbRegPost (c : Cond) (up : Bool) (rn rd : RegNo) (amount : BitVec 5) (ty : ShiftType) (rm : RegNo)
    (s : State) : Result :=
  whenPassed c s (checkOffset false rn rm (loadByteReg (privileged s) false up false rn rd (shiftedOffset s amount ty rm) s))

/-- LDRBT, Single Data Transfer, register offset, post-indexed, W = 1 (R347). -/
def execLdrbtReg (c : Cond) (up : Bool) (rn rd : RegNo) (amount : BitVec 5) (ty : ShiftType) (rm : RegNo)
    (s : State) : Result :=
  whenPassed c s (checkOffset false rn rm (loadByteReg false false up true rn rd (shiftedOffset s amount ty rm) s))

/-- STR, Single Data Transfer, immediate offset, pre-indexed (R345). -/
def execStrImmPre (c : Cond) (up wb : Bool) (rn rd : RegNo) (offset : BitVec 12) (s : State) : Result :=
  whenPassed c s (storeWordReg (privileged s) true up wb rn rd (offset.setWidth 32) s)

/-- STR, Single Data Transfer, immediate offset, post-indexed (R345). -/
def execStrImmPost (c : Cond) (up : Bool) (rn rd : RegNo) (offset : BitVec 12) (s : State) : Result :=
  whenPassed c s (storeWordReg (privileged s) false up false rn rd (offset.setWidth 32) s)

/-- STRT, Single Data Transfer, immediate offset, post-indexed, W = 1 (R347). -/
def execStrtImm (c : Cond) (up : Bool) (rn rd : RegNo) (offset : BitVec 12) (s : State) : Result :=
  whenPassed c s (storeWordReg false false up true rn rd (offset.setWidth 32) s)

/-- STR, Single Data Transfer, register offset, pre-indexed (R345). -/
def execStrRegPre (c : Cond) (up wb : Bool) (rn rd : RegNo) (amount : BitVec 5) (ty : ShiftType) (rm : RegNo)
    (s : State) : Result :=
  whenPassed c s (checkOffset true rn rm (storeWordReg (privileged s) true up wb rn rd (shiftedOffset s amount ty rm) s))

/-- STR, Single Data Transfer, register offset, post-indexed (R345). -/
def execStrRegPost (c : Cond) (up : Bool) (rn rd : RegNo) (amount : BitVec 5) (ty : ShiftType) (rm : RegNo)
    (s : State) : Result :=
  whenPassed c s (checkOffset false rn rm (storeWordReg (privileged s) false up false rn rd (shiftedOffset s amount ty rm) s))

/-- STRT, Single Data Transfer, register offset, post-indexed, W = 1 (R347). -/
def execStrtReg (c : Cond) (up : Bool) (rn rd : RegNo) (amount : BitVec 5) (ty : ShiftType) (rm : RegNo)
    (s : State) : Result :=
  whenPassed c s (checkOffset false rn rm (storeWordReg false false up true rn rd (shiftedOffset s amount ty rm) s))

/-- STRB, Single Data Transfer, immediate offset, pre-indexed (R346). -/
def execStrbImmPre (c : Cond) (up wb : Bool) (rn rd : RegNo) (offset : BitVec 12) (s : State) : Result :=
  whenPassed c s (storeByteReg (privileged s) true up wb rn rd (offset.setWidth 32) s)

/-- STRB, Single Data Transfer, immediate offset, post-indexed (R346). -/
def execStrbImmPost (c : Cond) (up : Bool) (rn rd : RegNo) (offset : BitVec 12) (s : State) : Result :=
  whenPassed c s (storeByteReg (privileged s) false up false rn rd (offset.setWidth 32) s)

/-- STRBT, Single Data Transfer, immediate offset, post-indexed, W = 1 (R347). -/
def execStrbtImm (c : Cond) (up : Bool) (rn rd : RegNo) (offset : BitVec 12) (s : State) : Result :=
  whenPassed c s (storeByteReg false false up true rn rd (offset.setWidth 32) s)

/-- STRB, Single Data Transfer, register offset, pre-indexed (R346). -/
def execStrbRegPre (c : Cond) (up wb : Bool) (rn rd : RegNo) (amount : BitVec 5) (ty : ShiftType) (rm : RegNo)
    (s : State) : Result :=
  whenPassed c s (checkOffset true rn rm (storeByteReg (privileged s) true up wb rn rd (shiftedOffset s amount ty rm) s))

/-- STRB, Single Data Transfer, register offset, post-indexed (R346). -/
def execStrbRegPost (c : Cond) (up : Bool) (rn rd : RegNo) (amount : BitVec 5) (ty : ShiftType) (rm : RegNo)
    (s : State) : Result :=
  whenPassed c s (checkOffset false rn rm (storeByteReg (privileged s) false up false rn rd (shiftedOffset s amount ty rm) s))

/-- STRBT, Single Data Transfer, register offset, post-indexed, W = 1 (R347). -/
def execStrbtReg (c : Cond) (up : Bool) (rn rd : RegNo) (amount : BitVec 5) (ty : ShiftType) (rm : RegNo)
    (s : State) : Result :=
  whenPassed c s (checkOffset false rn rm (storeByteReg false false up true rn rd (shiftedOffset s amount ty rm) s))

end Sys2Proof.Machine
end

