-- ==== Sys2Proof/Machine/HalfwordTransfer.lean ====
section
/-! DEFINITION. Halfword and signed data transfer (spec/46_halfword_signed_transfer.md). -/

namespace Sys2Proof.Machine

/-- The uses of registers the class forbids (R378; spec/10_state.md R43). -/
def checkHalf (load pre wb : Bool) (rn rd : RegNo) (s : State) (k : Result) : Result :=
  refuseIf (rd == 15) .halfwordTransferOfR15 <|
    refuseIf (writesBack pre wb && rn == 15) .writeBackToR15 <|
      refuseIf (load && writesBack pre wb && rd == rn) .loadWriteBackToDestination <|
        refuseIf (readsPc26 s (rn == 15)) .r15ReadIn26BitMode k

/-- LDRH, LDRSB and LDRSH, with the access and its extension given: write-back, then Rd (R373 to R375, R379, R381). -/
def loadExtendedReg (pre up wb : Bool) (rn rd : RegNo) (off : Word) (access : Word → Option Word) (s : State) :
    Result :=
  checkHalf true pre wb rn rd s <|
    let base := readReg s .n rn
    match access (transferAddress pre up base off) with
    | none => .next (takeDataAbort s)
    | some v => advance (writeReg (writeBack s pre wb rn (indexed up base off)) rd v)

/-- The access of LDRH (R373, R379). -/
def halfwordAccess (s : State) (a : Word) : Option Word := loadHalf s a fun h => h.setWidth 32

/-- The access of LDRSB (R374). -/
def signedByteAccess (s : State) (a : Word) : Option Word :=
  (loadByte s .loadB (privileged s) a).map fun b => b.signExtend 32

/-- The access of LDRSH (R375, R379). -/
def signedHalfwordAccess (s : State) (a : Word) : Option Word := loadHalf s a fun h => h.signExtend 32

/-- STRH (R376, R380, R381). -/
def storeHalfReg (pre up wb : Bool) (rn rd : RegNo) (off : Word) (s : State) : Result :=
  checkHalf false pre wb rn rd s <|
    let base := readReg s .n rn
    let addr := transferAddress pre up base off
    refuseIf (addr.getLsbD 0) .misalignedHalfwordStore <|
      match storeHalf s addr (field (storedValue s pre wb rn rd) 0 16) with
      | none => .next (takeDataAbort s)
      | some t => advance (writeBack t pre wb rn (indexed up base off))

/-- LDRH, Halfword Data Transfer, register offset, pre-indexed (R373). -/
def execLdrhRegPre (c : Cond) (up wb : Bool) (rn rd rm : RegNo) (s : State) : Result :=
  whenPassed c s (checkOffset true rn rm (loadExtendedReg true up wb rn rd (readReg s .m rm) (halfwordAccess s) s))

/-- LDRH, Halfword Data Transfer, register offset, post-indexed (R373). -/
def execLdrhRegPost (c : Cond) (up : Bool) (rn rd rm : RegNo) (s : State) : Result :=
  whenPassed c s (checkOffset false rn rm (loadExtendedReg false up false rn rd (readReg s .m rm) (halfwordAccess s) s))

/-- LDRH, Halfword Data Transfer, immediate offset, pre-indexed (R373). -/
def execLdrhImmPre (c : Cond) (up wb : Bool) (rn rd : RegNo) (offset : BitVec 8) (s : State) : Result :=
  whenPassed c s (loadExtendedReg true up wb rn rd (offset.setWidth 32) (halfwordAccess s) s)

/-- LDRH, Halfword Data Transfer, immediate offset, post-indexed (R373). -/
def execLdrhImmPost (c : Cond) (up : Bool) (rn rd : RegNo) (offset : BitVec 8) (s : State) : Result :=
  whenPassed c s (loadExtendedReg false up false rn rd (offset.setWidth 32) (halfwordAccess s) s)

/-- LDRSB, Halfword Data Transfer, register offset, pre-indexed (R374). -/
def execLdrsbRegPre (c : Cond) (up wb : Bool) (rn rd rm : RegNo) (s : State) : Result :=
  whenPassed c s (checkOffset true rn rm (loadExtendedReg true up wb rn rd (readReg s .m rm) (signedByteAccess s) s))

/-- LDRSB, Halfword Data Transfer, register offset, post-indexed (R374). -/
def execLdrsbRegPost (c : Cond) (up : Bool) (rn rd rm : RegNo) (s : State) : Result :=
  whenPassed c s (checkOffset false rn rm (loadExtendedReg false up false rn rd (readReg s .m rm) (signedByteAccess s) s))

/-- LDRSB, Halfword Data Transfer, immediate offset, pre-indexed (R374). -/
def execLdrsbImmPre (c : Cond) (up wb : Bool) (rn rd : RegNo) (offset : BitVec 8) (s : State) : Result :=
  whenPassed c s (loadExtendedReg true up wb rn rd (offset.setWidth 32) (signedByteAccess s) s)

/-- LDRSB, Halfword Data Transfer, immediate offset, post-indexed (R374). -/
def execLdrsbImmPost (c : Cond) (up : Bool) (rn rd : RegNo) (offset : BitVec 8) (s : State) : Result :=
  whenPassed c s (loadExtendedReg false up false rn rd (offset.setWidth 32) (signedByteAccess s) s)

/-- LDRSH, Halfword Data Transfer, register offset, pre-indexed (R375). -/
def execLdrshRegPre (c : Cond) (up wb : Bool) (rn rd rm : RegNo) (s : State) : Result :=
  whenPassed c s (checkOffset true rn rm (loadExtendedReg true up wb rn rd (readReg s .m rm) (signedHalfwordAccess s) s))

/-- LDRSH, Halfword Data Transfer, register offset, post-indexed (R375). -/
def execLdrshRegPost (c : Cond) (up : Bool) (rn rd rm : RegNo) (s : State) : Result :=
  whenPassed c s (checkOffset false rn rm (loadExtendedReg false up false rn rd (readReg s .m rm) (signedHalfwordAccess s) s))

/-- LDRSH, Halfword Data Transfer, immediate offset, pre-indexed (R375). -/
def execLdrshImmPre (c : Cond) (up wb : Bool) (rn rd : RegNo) (offset : BitVec 8) (s : State) : Result :=
  whenPassed c s (loadExtendedReg true up wb rn rd (offset.setWidth 32) (signedHalfwordAccess s) s)

/-- LDRSH, Halfword Data Transfer, immediate offset, post-indexed (R375). -/
def execLdrshImmPost (c : Cond) (up : Bool) (rn rd : RegNo) (offset : BitVec 8) (s : State) : Result :=
  whenPassed c s (loadExtendedReg false up false rn rd (offset.setWidth 32) (signedHalfwordAccess s) s)

/-- STRH, Halfword Data Transfer, register offset, pre-indexed (R376). -/
def execStrhRegPre (c : Cond) (up wb : Bool) (rn rd rm : RegNo) (s : State) : Result :=
  whenPassed c s (checkOffset true rn rm (storeHalfReg true up wb rn rd (readReg s .m rm) s))

/-- STRH, Halfword Data Transfer, register offset, post-indexed (R376). -/
def execStrhRegPost (c : Cond) (up : Bool) (rn rd rm : RegNo) (s : State) : Result :=
  whenPassed c s (checkOffset false rn rm (storeHalfReg false up false rn rd (readReg s .m rm) s))

/-- STRH, Halfword Data Transfer, immediate offset, pre-indexed (R376). -/
def execStrhImmPre (c : Cond) (up wb : Bool) (rn rd : RegNo) (offset : BitVec 8) (s : State) : Result :=
  whenPassed c s (storeHalfReg true up wb rn rd (offset.setWidth 32) s)

/-- STRH, Halfword Data Transfer, immediate offset, post-indexed (R376). -/
def execStrhImmPost (c : Cond) (up : Bool) (rn rd : RegNo) (offset : BitVec 8) (s : State) : Result :=
  whenPassed c s (storeHalfReg false up false rn rd (offset.setWidth 32) s)

end Sys2Proof.Machine
end

