-- ==== Sys2Proof/Machine/Multiply.lean ====
section
/-! DEFINITION. The multiplies (spec/44_multiply.md). -/

namespace Sys2Proof.Machine

/-- MUL and MLA: Rd := Rm * Rs + acc modulo 2^32, with S the flags (R321 to R323). -/
def multiply (sb : Bool) (rd rs rm : RegNo) (acc : Word) (s : State) : Result :=
  let res := readReg s .m rm * readReg s .s rs + acc
  advance (writeReg (if sb then setMultiplyFlags s res else s) rd res)

/-- The operands no MUL or MLA may have (R324). -/
def multiplyForbidden (rd rs rm : RegNo) : Bool := rd == rm || rd == 15 || rm == 15 || rs == 15

/-- The 64-bit product of Rm and Rs, unsigned or signed (R327). -/
def longProduct (signed : Bool) (m r : Word) : BitVec 64 :=
  if signed then m.signExtend 64 * r.signExtend 64 else m.setWidth 64 * r.setWidth 64

/-- The four long multiplies: RdHi, RdLo := Rm * Rs, with `acc` plus RdHi, RdLo, modulo 2^64 (R327 to R329). -/
def multiplyLong (signed acc sb : Bool) (rdHi rdLo rs rm : RegNo) (s : State) : Result :=
  refuseIf (rdHi == 15 || rdLo == 15 || rs == 15 || rm == 15 || rdHi == rdLo || rdHi == rm || rdLo == rm)
    .longMultiplyOperands <|
    let addend : BitVec 64 := if acc then readReg s .n rdHi ++ readReg s .d rdLo else 0
    let r := longProduct signed (readReg s .m rm) (readReg s .s rs) + addend
    let t := if sb then setLongMultiplyFlags s r else s
    advance (writeReg (writeReg t rdLo (r.extractLsb' 0 32)) rdHi (r.extractLsb' 32 32))

/-- MUL, Multiply (R321). -/
def execMul (c : Cond) (sb : Bool) (rd _rn rs rm : RegNo) (s : State) : Result :=
  whenPassed c s (refuseIf (multiplyForbidden rd rs rm) .multiplyOperands (multiply sb rd rs rm 0 s))

/-- MLA, Multiply (R322). -/
def execMla (c : Cond) (sb : Bool) (rd rn rs rm : RegNo) (s : State) : Result :=
  whenPassed c s (refuseIf (multiplyForbidden rd rs rm || rn == 15) .multiplyOperands
    (multiply sb rd rs rm (readReg s .n rn) s))

/-- UMULL, Multiply Long (R327). -/
def execUmull (c : Cond) (sb : Bool) (rdHi rdLo rs rm : RegNo) (s : State) : Result :=
  whenPassed c s (multiplyLong false false sb rdHi rdLo rs rm s)

/-- UMLAL, Multiply Long (R327). -/
def execUmlal (c : Cond) (sb : Bool) (rdHi rdLo rs rm : RegNo) (s : State) : Result :=
  whenPassed c s (multiplyLong false true sb rdHi rdLo rs rm s)

/-- SMULL, Multiply Long (R327). -/
def execSmull (c : Cond) (sb : Bool) (rdHi rdLo rs rm : RegNo) (s : State) : Result :=
  whenPassed c s (multiplyLong true false sb rdHi rdLo rs rm s)

/-- SMLAL, Multiply Long (R327). -/
def execSmlal (c : Cond) (sb : Bool) (rdHi rdLo rs rm : RegNo) (s : State) : Result :=
  whenPassed c s (multiplyLong true true sb rdHi rdLo rs rm s)

end Sys2Proof.Machine
end

