-- ==== Sys2Proof/Machine/PsrTransfer.lean ====
section
/-! DEFINITION. MRS and MSR (spec/43_psr_transfer.md). -/

namespace Sys2Proof.Machine

/-- MRS: a PSR goes to Rd with free reserved bits (R301, R302). -/
def moveFromPsr (rd : RegNo) (p : Option Psr) (s : State) : Result :=
  refuseIf (rd == 15) .psrTransferUsesR15 <|
    match p with
    | none => .refused .spsrAbsent
    | some p => advance (writeReg s rd (psrWord p (Config.freeWord s.tick .psrReserved)))

/-- The control bits of the CPSR written in a privileged mode (R304). A change between a 26-bit and a 32-bit mode needs an
IMB before or after it (spec/20_memory.md R129, log 9), and a 26-bit mode must not be entered outside the 26-bit address
space (R82). Whether the next word may follow an MSR at 0x03FFFFFC is decided by the mode it enters: DESIGN CHOICE, log 33. -/
def writeControl (v : Word) (s : State) : Result :=
  match modeOfBits (field v 0 5) with
  | none => .refused .invalidMode
  | some m =>
    let changes := is26 m != is26 s.cpsr.mode
    refuseIf (enters26Outside s m) .enter26Outside <|
      advance { s with
        cpsr := { s.cpsr with i := v.getLsbD 7, f := v.getLsbD 6, mode := m }
        imbOwed := if changes && s.imbReturn != some s.pc then (s.pc + 4) :: s.imbOwed else s.imbOwed }

/-- MSR to the CPSR: the flags in every mode, the control bits in a privileged mode only (R303, R304). -/
def moveToCpsr (mask : FieldMask) (v : Word) (s : State) : Result :=
  let t := if mask.flags then setFlagBits s v else s
  if mask.control && privileged s then writeControl v t else advance t

/-- The SPSR fields the mask selects (R303, R305). -/
def maskedPsr (mask : FieldMask) (v : Word) (old : Psr) : Psr :=
  let w := psrOfWord v
  let t := if mask.flags then { old with n := w.n, z := w.z, c := w.c, v := w.v } else old
  if mask.control then { t with i := w.i, f := w.f, m := w.m } else t

/-- MSR to the SPSR of the current mode (R305). -/
def moveToSpsr (mask : FieldMask) (v : Word) (s : State) : Result :=
  match currentSpsr s with
  | none => .refused .spsrAbsent
  | some old => advance (setSpsr s (modeBank s.cpsr.mode) (maskedPsr mask v old))

/-- MRS, PSR Transfer (CPSR to register) (R301). -/
def execMrsCpsr (c : Cond) (rd : RegNo) (s : State) : Result :=
  whenPassed c s (moveFromPsr rd (some (cpsrToPsr s.cpsr)) s)

/-- MRS, PSR Transfer (SPSR to register) (R302). -/
def execMrsSpsr (c : Cond) (rd : RegNo) (s : State) : Result :=
  whenPassed c s (moveFromPsr rd (currentSpsr s) s)

/-- MSR, PSR Transfer (register to CPSR) (R304). -/
def execMsrCpsrReg (c : Cond) (mask : FieldMask) (rm : RegNo) (s : State) : Result :=
  whenPassed c s (refuseIf (rm == 15) .psrTransferUsesR15 (moveToCpsr mask (readReg s .m rm) s))

/-- MSR, PSR Transfer (immediate to CPSR) (R304). -/
def execMsrCpsrImm (c : Cond) (mask : FieldMask) (rotate : BitVec 4) (imm : BitVec 8) (s : State) : Result :=
  whenPassed c s (moveToCpsr mask (rotatedImmediate rotate imm) s)

/-- MSR, PSR Transfer (register to SPSR) (R305). -/
def execMsrSpsrReg (c : Cond) (mask : FieldMask) (rm : RegNo) (s : State) : Result :=
  whenPassed c s (refuseIf (rm == 15) .psrTransferUsesR15 (moveToSpsr mask (readReg s .m rm) s))

/-- MSR, PSR Transfer (immediate to SPSR) (R305). -/
def execMsrSpsrImm (c : Cond) (mask : FieldMask) (rotate : BitVec 4) (imm : BitVec 8) (s : State) : Result :=
  whenPassed c s (moveToSpsr mask (rotatedImmediate rotate imm) s)

end Sys2Proof.Machine
end

