-- ==== Sys2Proof/Machine/SwapSwi.lean ====
section
/-! DEFINITION. SWP, SWPB, SWI, IMB and IMBRange (spec/48_swap_swi_imb.md). -/

namespace Sys2Proof.Machine

/-- No operand of a swap may be R15 (R424). -/
def checkSwap (rn rd rm : RegNo) (k : Result) : Result := refuseIf (rn == 15 || rd == 15 || rm == 15) .swapUsesR15 k

/-- The software interrupt: Supervisor mode, and every executed SWI is an Instruction Memory Barrier (R428, R430, R431;
spec/20_memory.md R125, R127), the one that any mode change still waits for among others (R129, log 9). -/
def softwareInterrupt (s : State) : State :=
  { takeException .swi (s.pc + 4) s with
    stale := []
    imbOwed := []
    imbReturn := some (returnAddress s.cpsr.mode (s.pc + 4)) }

/-- SWP, Single Data Swap (R422). -/
def execSwp (c : Cond) (rn rd rm : RegNo) (s : State) : Result :=
  whenPassed c s <|
    checkSwap rn rd rm <|
      let addr := readReg s .n rn
      match loadWord s .loadX (privileged s) addr with
      | none => .next (takeDataAbort s)
      | some w =>
        match storeWord s .storeX (privileged s) addr (readReg s .m rm) with
        | none => .next (takeDataAbort s)
        | some t => advance (writeReg t rd (rotateLoaded w addr))

/-- SWPB, Single Data Swap (R423). -/
def execSwpb (c : Cond) (rn rd rm : RegNo) (s : State) : Result :=
  whenPassed c s <|
    checkSwap rn rd rm <|
      let addr := readReg s .n rn
      match loadByte s .loadBX (privileged s) addr with
      | none => .next (takeDataAbort s)
      | some b =>
        match storeByte s .storeBX (privileged s) addr (field (readReg s .m rm) 0 8) with
        | none => .next (takeDataAbort s)
        | some t => advance (writeReg t rd (b.setWidth 32))

/-- SWI, Software Interrupt (R428). -/
def execSwi (c : Cond) (_comment : BitVec 24) (s : State) : Result :=
  whenPassed c s (.next (softwareInterrupt s))

/-- IMB, Software Interrupt, comment = 0xF00000 (R430). -/
def execImb (c : Cond) (s : State) : Result :=
  whenPassed c s (.next (softwareInterrupt s))

/-- IMBRange, Software Interrupt, comment = 0xF00001 (R431). -/
def execImbRange (c : Cond) (s : State) : Result :=
  whenPassed c s (.next (softwareInterrupt s))

end Sys2Proof.Machine
end

