-- ==== Sys2Proof/Machine/Dispatch.lean ====
section
/-! DEFINITION. One arm per instruction, each a direct call of its meaning. -/

namespace Sys2Proof.Machine

def exec (i : Instr) (s : State) : Host.Outcome State Fault Refusal :=
  match i with
  | .b c offset => Sys2Proof.Machine.execB c offset s
  | .bl c offset => Sys2Proof.Machine.execBl c offset s
  | .andImm c sb rn rd rotate imm => Sys2Proof.Machine.execAndImm c sb rn rd rotate imm s
  | .andShiftImm c sb rn rd amount ty rm => Sys2Proof.Machine.execAndShiftImm c sb rn rd amount ty rm s
  | .andShiftReg c sb rn rd rs ty rm => Sys2Proof.Machine.execAndShiftReg c sb rn rd rs ty rm s
  | .eorImm c sb rn rd rotate imm => Sys2Proof.Machine.execEorImm c sb rn rd rotate imm s
  | .eorShiftImm c sb rn rd amount ty rm => Sys2Proof.Machine.execEorShiftImm c sb rn rd amount ty rm s
  | .eorShiftReg c sb rn rd rs ty rm => Sys2Proof.Machine.execEorShiftReg c sb rn rd rs ty rm s
  | .subImm c sb rn rd rotate imm => Sys2Proof.Machine.execSubImm c sb rn rd rotate imm s
  | .subShiftImm c sb rn rd amount ty rm => Sys2Proof.Machine.execSubShiftImm c sb rn rd amount ty rm s
  | .subShiftReg c sb rn rd rs ty rm => Sys2Proof.Machine.execSubShiftReg c sb rn rd rs ty rm s
  | .rsbImm c sb rn rd rotate imm => Sys2Proof.Machine.execRsbImm c sb rn rd rotate imm s
  | .rsbShiftImm c sb rn rd amount ty rm => Sys2Proof.Machine.execRsbShiftImm c sb rn rd amount ty rm s
  | .rsbShiftReg c sb rn rd rs ty rm => Sys2Proof.Machine.execRsbShiftReg c sb rn rd rs ty rm s
  | .addImm c sb rn rd rotate imm => Sys2Proof.Machine.execAddImm c sb rn rd rotate imm s
  | .addShiftImm c sb rn rd amount ty rm => Sys2Proof.Machine.execAddShiftImm c sb rn rd amount ty rm s
  | .addShiftReg c sb rn rd rs ty rm => Sys2Proof.Machine.execAddShiftReg c sb rn rd rs ty rm s
  | .adcImm c sb rn rd rotate imm => Sys2Proof.Machine.execAdcImm c sb rn rd rotate imm s
  | .adcShiftImm c sb rn rd amount ty rm => Sys2Proof.Machine.execAdcShiftImm c sb rn rd amount ty rm s
  | .adcShiftReg c sb rn rd rs ty rm => Sys2Proof.Machine.execAdcShiftReg c sb rn rd rs ty rm s
  | .sbcImm c sb rn rd rotate imm => Sys2Proof.Machine.execSbcImm c sb rn rd rotate imm s
  | .sbcShiftImm c sb rn rd amount ty rm => Sys2Proof.Machine.execSbcShiftImm c sb rn rd amount ty rm s
  | .sbcShiftReg c sb rn rd rs ty rm => Sys2Proof.Machine.execSbcShiftReg c sb rn rd rs ty rm s
  | .rscImm c sb rn rd rotate imm => Sys2Proof.Machine.execRscImm c sb rn rd rotate imm s
  | .rscShiftImm c sb rn rd amount ty rm => Sys2Proof.Machine.execRscShiftImm c sb rn rd amount ty rm s
  | .rscShiftReg c sb rn rd rs ty rm => Sys2Proof.Machine.execRscShiftReg c sb rn rd rs ty rm s
  | .tstImm c rn rd rotate imm => Sys2Proof.Machine.execTstImm c rn rd rotate imm s
  | .tstShiftImm c rn rd amount ty rm => Sys2Proof.Machine.execTstShiftImm c rn rd amount ty rm s
  | .tstShiftReg c rn rd rs ty rm => Sys2Proof.Machine.execTstShiftReg c rn rd rs ty rm s
  | .teqImm c rn rd rotate imm => Sys2Proof.Machine.execTeqImm c rn rd rotate imm s
  | .teqShiftImm c rn rd amount ty rm => Sys2Proof.Machine.execTeqShiftImm c rn rd amount ty rm s
  | .teqShiftReg c rn rd rs ty rm => Sys2Proof.Machine.execTeqShiftReg c rn rd rs ty rm s
  | .cmpImm c rn rd rotate imm => Sys2Proof.Machine.execCmpImm c rn rd rotate imm s
  | .cmpShiftImm c rn rd amount ty rm => Sys2Proof.Machine.execCmpShiftImm c rn rd amount ty rm s
  | .cmpShiftReg c rn rd rs ty rm => Sys2Proof.Machine.execCmpShiftReg c rn rd rs ty rm s
  | .cmnImm c rn rd rotate imm => Sys2Proof.Machine.execCmnImm c rn rd rotate imm s
  | .cmnShiftImm c rn rd amount ty rm => Sys2Proof.Machine.execCmnShiftImm c rn rd amount ty rm s
  | .cmnShiftReg c rn rd rs ty rm => Sys2Proof.Machine.execCmnShiftReg c rn rd rs ty rm s
  | .orrImm c sb rn rd rotate imm => Sys2Proof.Machine.execOrrImm c sb rn rd rotate imm s
  | .orrShiftImm c sb rn rd amount ty rm => Sys2Proof.Machine.execOrrShiftImm c sb rn rd amount ty rm s
  | .orrShiftReg c sb rn rd rs ty rm => Sys2Proof.Machine.execOrrShiftReg c sb rn rd rs ty rm s
  | .movImm c sb rn rd rotate imm => Sys2Proof.Machine.execMovImm c sb rn rd rotate imm s
  | .movShiftImm c sb rn rd amount ty rm => Sys2Proof.Machine.execMovShiftImm c sb rn rd amount ty rm s
  | .movShiftReg c sb rn rd rs ty rm => Sys2Proof.Machine.execMovShiftReg c sb rn rd rs ty rm s
  | .bicImm c sb rn rd rotate imm => Sys2Proof.Machine.execBicImm c sb rn rd rotate imm s
  | .bicShiftImm c sb rn rd amount ty rm => Sys2Proof.Machine.execBicShiftImm c sb rn rd amount ty rm s
  | .bicShiftReg c sb rn rd rs ty rm => Sys2Proof.Machine.execBicShiftReg c sb rn rd rs ty rm s
  | .mvnImm c sb rn rd rotate imm => Sys2Proof.Machine.execMvnImm c sb rn rd rotate imm s
  | .mvnShiftImm c sb rn rd amount ty rm => Sys2Proof.Machine.execMvnShiftImm c sb rn rd amount ty rm s
  | .mvnShiftReg c sb rn rd rs ty rm => Sys2Proof.Machine.execMvnShiftReg c sb rn rd rs ty rm s
  | .mrsCpsr c rd => Sys2Proof.Machine.execMrsCpsr c rd s
  | .mrsSpsr c rd => Sys2Proof.Machine.execMrsSpsr c rd s
  | .msrCpsrReg c mask rm => Sys2Proof.Machine.execMsrCpsrReg c mask rm s
  | .msrCpsrImm c mask rotate imm => Sys2Proof.Machine.execMsrCpsrImm c mask rotate imm s
  | .msrSpsrReg c mask rm => Sys2Proof.Machine.execMsrSpsrReg c mask rm s
  | .msrSpsrImm c mask rotate imm => Sys2Proof.Machine.execMsrSpsrImm c mask rotate imm s
  | .mul c sb rd rn rs rm => Sys2Proof.Machine.execMul c sb rd rn rs rm s
  | .mla c sb rd rn rs rm => Sys2Proof.Machine.execMla c sb rd rn rs rm s
  | .umull c sb rdHi rdLo rs rm => Sys2Proof.Machine.execUmull c sb rdHi rdLo rs rm s
  | .umlal c sb rdHi rdLo rs rm => Sys2Proof.Machine.execUmlal c sb rdHi rdLo rs rm s
  | .smull c sb rdHi rdLo rs rm => Sys2Proof.Machine.execSmull c sb rdHi rdLo rs rm s
  | .smlal c sb rdHi rdLo rs rm => Sys2Proof.Machine.execSmlal c sb rdHi rdLo rs rm s
  | .ldrImmPre c up wb rn rd offset => Sys2Proof.Machine.execLdrImmPre c up wb rn rd offset s
  | .ldrImmPost c up rn rd offset => Sys2Proof.Machine.execLdrImmPost c up rn rd offset s
  | .ldrtImm c up rn rd offset => Sys2Proof.Machine.execLdrtImm c up rn rd offset s
  | .ldrRegPre c up wb rn rd amount ty rm => Sys2Proof.Machine.execLdrRegPre c up wb rn rd amount ty rm s
  | .ldrRegPost c up rn rd amount ty rm => Sys2Proof.Machine.execLdrRegPost c up rn rd amount ty rm s
  | .ldrtReg c up rn rd amount ty rm => Sys2Proof.Machine.execLdrtReg c up rn rd amount ty rm s
  | .ldrbImmPre c up wb rn rd offset => Sys2Proof.Machine.execLdrbImmPre c up wb rn rd offset s
  | .ldrbImmPost c up rn rd offset => Sys2Proof.Machine.execLdrbImmPost c up rn rd offset s
  | .ldrbtImm c up rn rd offset => Sys2Proof.Machine.execLdrbtImm c up rn rd offset s
  | .ldrbRegPre c up wb rn rd amount ty rm => Sys2Proof.Machine.execLdrbRegPre c up wb rn rd amount ty rm s
  | .ldrbRegPost c up rn rd amount ty rm => Sys2Proof.Machine.execLdrbRegPost c up rn rd amount ty rm s
  | .ldrbtReg c up rn rd amount ty rm => Sys2Proof.Machine.execLdrbtReg c up rn rd amount ty rm s
  | .strImmPre c up wb rn rd offset => Sys2Proof.Machine.execStrImmPre c up wb rn rd offset s
  | .strImmPost c up rn rd offset => Sys2Proof.Machine.execStrImmPost c up rn rd offset s
  | .strtImm c up rn rd offset => Sys2Proof.Machine.execStrtImm c up rn rd offset s
  | .strRegPre c up wb rn rd amount ty rm => Sys2Proof.Machine.execStrRegPre c up wb rn rd amount ty rm s
  | .strRegPost c up rn rd amount ty rm => Sys2Proof.Machine.execStrRegPost c up rn rd amount ty rm s
  | .strtReg c up rn rd amount ty rm => Sys2Proof.Machine.execStrtReg c up rn rd amount ty rm s
  | .strbImmPre c up wb rn rd offset => Sys2Proof.Machine.execStrbImmPre c up wb rn rd offset s
  | .strbImmPost c up rn rd offset => Sys2Proof.Machine.execStrbImmPost c up rn rd offset s
  | .strbtImm c up rn rd offset => Sys2Proof.Machine.execStrbtImm c up rn rd offset s
  | .strbRegPre c up wb rn rd amount ty rm => Sys2Proof.Machine.execStrbRegPre c up wb rn rd amount ty rm s
  | .strbRegPost c up rn rd amount ty rm => Sys2Proof.Machine.execStrbRegPost c up rn rd amount ty rm s
  | .strbtReg c up rn rd amount ty rm => Sys2Proof.Machine.execStrbtReg c up rn rd amount ty rm s
  | .ldrhRegPre c up wb rn rd rm => Sys2Proof.Machine.execLdrhRegPre c up wb rn rd rm s
  | .ldrhRegPost c up rn rd rm => Sys2Proof.Machine.execLdrhRegPost c up rn rd rm s
  | .ldrhImmPre c up wb rn rd offset => Sys2Proof.Machine.execLdrhImmPre c up wb rn rd offset s
  | .ldrhImmPost c up rn rd offset => Sys2Proof.Machine.execLdrhImmPost c up rn rd offset s
  | .ldrsbRegPre c up wb rn rd rm => Sys2Proof.Machine.execLdrsbRegPre c up wb rn rd rm s
  | .ldrsbRegPost c up rn rd rm => Sys2Proof.Machine.execLdrsbRegPost c up rn rd rm s
  | .ldrsbImmPre c up wb rn rd offset => Sys2Proof.Machine.execLdrsbImmPre c up wb rn rd offset s
  | .ldrsbImmPost c up rn rd offset => Sys2Proof.Machine.execLdrsbImmPost c up rn rd offset s
  | .ldrshRegPre c up wb rn rd rm => Sys2Proof.Machine.execLdrshRegPre c up wb rn rd rm s
  | .ldrshRegPost c up rn rd rm => Sys2Proof.Machine.execLdrshRegPost c up rn rd rm s
  | .ldrshImmPre c up wb rn rd offset => Sys2Proof.Machine.execLdrshImmPre c up wb rn rd offset s
  | .ldrshImmPost c up rn rd offset => Sys2Proof.Machine.execLdrshImmPost c up rn rd offset s
  | .strhRegPre c up wb rn rd rm => Sys2Proof.Machine.execStrhRegPre c up wb rn rd rm s
  | .strhRegPost c up rn rd rm => Sys2Proof.Machine.execStrhRegPost c up rn rd rm s
  | .strhImmPre c up wb rn rd offset => Sys2Proof.Machine.execStrhImmPre c up wb rn rd offset s
  | .strhImmPost c up rn rd offset => Sys2Proof.Machine.execStrhImmPost c up rn rd offset s
  | .ldm c pre up wb rn list => Sys2Proof.Machine.execLdm c pre up wb rn list s
  | .ldmPc c pre up wb rn list => Sys2Proof.Machine.execLdmPc c pre up wb rn list s
  | .ldmUser c pre up wb rn list => Sys2Proof.Machine.execLdmUser c pre up wb rn list s
  | .stm c pre up wb rn list => Sys2Proof.Machine.execStm c pre up wb rn list s
  | .stmUser c pre up wb rn list => Sys2Proof.Machine.execStmUser c pre up wb rn list s
  | .swp c rn rd rm => Sys2Proof.Machine.execSwp c rn rd rm s
  | .swpb c rn rd rm => Sys2Proof.Machine.execSwpb c rn rd rm s
  | .swi c comment => Sys2Proof.Machine.execSwi c comment s
  | .imb c => Sys2Proof.Machine.execImb c s
  | .imbRange c => Sys2Proof.Machine.execImbRange c s
  | .cdp c opc crn crd cp info crm => Sys2Proof.Machine.execCdp c opc crn crd cp info crm s
  | .ldc c pre up long wb rn crd cp offset => Sys2Proof.Machine.execLdc c pre up long wb rn crd cp offset s
  | .stc c pre up long wb rn crd cp offset => Sys2Proof.Machine.execStc c pre up long wb rn crd cp offset s
  | .mrc c opc crn rd cp info crm => Sys2Proof.Machine.execMrc c opc crn rd cp info crm s
  | .mcr c opc crn rd cp info crm => Sys2Proof.Machine.execMcr c opc crn rd cp info crm s
  | .undefinedA c bits => Sys2Proof.Machine.execUndefinedA c bits s
  | .undefinedB1 c bits => Sys2Proof.Machine.execUndefinedB1 c bits s
  | .undefinedB2 c bits => Sys2Proof.Machine.execUndefinedB2 c bits s
  | .undefinedB3 c bits => Sys2Proof.Machine.execUndefinedB3 c bits s
  | .undefinedB4 c bits => Sys2Proof.Machine.execUndefinedB4 c bits s
  | .undefinedB5 c bits => Sys2Proof.Machine.execUndefinedB5 c bits s
  | .undefinedC c bits => Sys2Proof.Machine.execUndefinedC c bits s
  | .undefinedD1 c bits => Sys2Proof.Machine.execUndefinedD1 c bits s
  | .undefinedD2 c bits => Sys2Proof.Machine.execUndefinedD2 c bits s
  | .undefinedD3 c bits => Sys2Proof.Machine.execUndefinedD3 c bits s
  | .undefinedE1 c bits => Sys2Proof.Machine.execUndefinedE1 c bits s
  | .undefinedE2 c bits => Sys2Proof.Machine.execUndefinedE2 c bits s
  | .undefinedE3 c bits => Sys2Proof.Machine.execUndefinedE3 c bits s
  | .undefinedE4 c bits => Sys2Proof.Machine.execUndefinedE4 c bits s

end Sys2Proof.Machine
end

