-- ==== Sys2Proof/Machine/Reset.lean ====
section
/-! DEFINITION. Reset applied to a running machine (spec/70_reset_and_hazards.md R600 to R604). `State.reset` is the
machine after such a reset with the values the model names in place of the free ones (log 2, 3, 4). -/

namespace Sys2Proof.Machine

/-- One register in every bank, each copy a free word (R602, log 15). -/
def freeBanked (tick : Nat) (reg : Bank → PhysReg) : Banked where
  usr := Config.freeWord tick (.resetRegister (reg .usr))
  fiq := Config.freeWord tick (.resetRegister (reg .fiq))
  irq := Config.freeWord tick (.resetRegister (reg .irq))
  svc := Config.freeWord tick (.resetRegister (reg .svc))
  abt := Config.freeWord tick (.resetRegister (reg .abt))
  und := Config.freeWord tick (.resetRegister (reg .und))

/-- The general registers after a reset: none is stated (R602). -/
def freeRegs (tick : Nat) : RegFile where
  low := Vector.ofFn fun k => Config.freeWord tick (.resetRegister (.low k))
  mid := Vector.ofFn fun k => Config.freeWord tick (.resetRegister (.mid k))
  midFiq := Vector.ofFn fun k => Config.freeWord tick (.resetRegister (.midFiq k))
  r13 := freeBanked tick .r13
  r14 := freeBanked tick .r14

/-- A status register after a reset, none stated (R602). -/
def freePsr (tick : Nat) (p : PsrName) : Psr := psrOfWord (Config.freeWord tick (.resetPsr p))

/-- The five SPSRs after a reset (R602). -/
def freeSpsrs (tick : Nat) : SpsrBank where
  fiq := freePsr tick .fiq
  irq := freePsr tick .irq
  svc := freePsr tick .svc
  abt := freePsr tick .abt
  und := freePsr tick .und

/-- The reply to a coprocessor instruction that is abandoned in its busy-wait loop is used up: when the instruction is
executed again the coprocessors are consulted anew (spec/49_coprocessor_undefined.md R452, R461). -/
def abandonWait (t : State) : State := if t.nextFetch = .held then { t with coproc := t.coproc.tail } else t

/-- The memory an abandoned instruction leaves: each byte it would have changed is changed or not (R604). `old` is
memory before the instruction, `new` after it. -/
def abandonedMemory (tick : Nat) (old new : Memory) : Memory :=
  (old ++ new).foldl
    (fun m cell =>
      if Config.freeBit tick (.resetByte cell.1) then m.write cell.1 (new.read cell.1) else m)
    old

/-- `nReset` goes LOW: the instruction from `s` to `t` is abandoned and nothing executes while it is held (R601, R604,
R605). A coprocessor instruction among them, busy-waiting or accepted, has had no effect (R602, log 15). -/
def enterReset (s t : State) : State :=
  { abandonWait t with
    mem := abandonedMemory s.tick s.mem t.mem
    coprocLog := s.coprocLog
    controlLog := s.controlLog
    inReset := true }

/-- `nReset` goes HIGH (R601, R602): Supervisor mode, both interrupts disabled, execution from address 0; what the spec
does not state is free, memory is unchanged. Each register, flag and SPSR is drawn once, here, and keeps that value until it
is written, though R603 lets every read differ: DESIGN CHOICE, log 15. -/
def releaseReset (s : State) : State :=
  let p := freePsr s.tick .cpsr
  { s with
    regs := freeRegs s.tick
    spsr := freeSpsrs s.tick
    cpsr := { n := p.n, z := p.z, c := p.c, v := p.v, i := true, f := true, mode := .svc }
    pc := 0
    nextFetch := .nonSequential
    stale := []
    hazardStep := none
    imbOwed := []
    imbReturn := none
    inReset := false }

end Sys2Proof.Machine
end

