-- ==== Sys2Proof/Machine/Cycle.lean ====
section
/-! DEFINITION. The instruction cycle (spec/40_conditional_execution.md R225): fetch, execute, sample the input pins. -/

namespace Sys2Proof.Machine

/-- The word an instruction fetch reads at the PC (spec/20_memory.md R84, R108). -/
def fetchWord (s : State) : Word := wordAt s s.pc

/-- The request that fetched the instruction at the PC, none for one that is held (R103). Whether the Prefetch Unit asked
speculatively is free (log 16). -/
def fetchRequest (s : State) : Option RequestKind :=
  match s.nextFetch with
  | .nonSequential => some (if Config.freeBit s.tick .speculativeFetch then .spec else .fetch)
  | .sequential => some (if Config.freeBit s.tick .speculativeFetch then .specS else .fetchS)
  | .held => none

/-- The fetch at the PC is answered with an abort (R108, R130). -/
def fetchAborts (s : State) : Bool :=
  match fetchRequest s with
  | none => false
  | some k => requestAborts s k (privileged s) s.pc

/-- The word at the PC was written since the last IMB (R127). -/
def fetchStale (s : State) : Bool := s.stale.contains s.pc.toNat

/-- An executed SWI, which is an Instruction Memory Barrier (R125). -/
def isExecutedSwi (i : Instr) (s : State) : Bool :=
  match i with
  | .swi c _ | .imb c | .imbRange c => conditionPassed c s.cpsr
  | _ => false

/-- The refusal of a reserved encoding (spec/30_encoding.md R181). -/
def reservedRefusal : ReservedField → Refusal
  | .psrTransfer => .reservedPsrField
  | .swap => .reservedSwapField
  | .halfword => .reservedHalfwordField

/-- Once the instruction after an IMB has run, that IMB accompanies nothing any more (R129). -/
def expireImb (s t : State) : State :=
  if t.imbReturn = s.imbReturn ∧ s.imbReturn = some s.pc then { t with imbReturn := none } else t

/-- The expiry on the outcome of an instruction. -/
def expireImbOutcome (s : State) : Result → Result
  | .next t => .next (expireImb s t)
  | .fault r => .fault r
  | .refused r => .refused r

/-- Steps 3 to 5 of R225 for a decoded word. Where an IMB is owed nothing but an executed SWI runs (R129). A reserved
word whose condition fails is a no-op like any other (R223). -/
def execDecoded (d : Decoded) (s : State) : Result :=
  match d with
  | .instr i =>
    if s.imbOwed.contains s.pc && !isExecutedSwi i s then .fault .modeChangeWithoutImb else expireImbOutcome s (exec i s)
  | .reserved c why =>
    if s.imbOwed.contains s.pc then .fault .modeChangeWithoutImb
    else expireImbOutcome s (whenPassed c s (.refused (reservedRefusal why)))
  | .reservedCondition => .refused .reservedCondition

/-- The Prefetch Abort of the instruction at the PC (spec/60_exceptions.md R516). No instruction was executed, so a
hazard of the user-bank LDM before it stays (log 24). -/
def takePrefetchAbort (s : State) : State :=
  { takeException .prefetchAbort (s.pc + 4) s with
    hazardStep := if hazardNow s then some (s.tick + 1) else s.hazardStep }

/-- Steps 1 to 5 of R225: an aborted fetch is taken before anything about the word counts (R516, D6); a stale word must
not be executed (R127). -/
def runInstruction (s : State) : Result :=
  if fetchAborts s then .next (takePrefetchAbort s)
  else if fetchStale s then .fault .staleInstruction
  else execDecoded (decode (fetchWord s)) s

/-- The levels of the pins at the next sampling point; none asserted when the list is empty (log 14). -/
def currentLines (s : State) : Lines :=
  match s.lines with
  | [] => { reset := false, fiq := false, irq := false }
  | l :: _ => l

/-- The sample is used up and the step counted. -/
def countStep (s : State) : State := { s with lines := s.lines.tail, tick := s.tick + 1 }

/-- The sampling of nFIQ and nIRQ with the CPSR as the instruction left it (R520, R521, R523): FIQ before IRQ, the
return value the next instruction's address plus 4; a busy-waiting coprocessor instruction is abandoned (R461). -/
def sampleInterrupts (l : Lines) (t : State) : State :=
  if l.fiq && !t.cpsr.f then takeException .fiq (t.pc + 4) (abandonWait t)
  else if l.irq && !t.cpsr.i then takeException .irq (t.pc + 4) (abandonWait t)
  else t

/-- Step 6 of R225, for an instruction that took `s` to `t`; reset comes before everything (spec/60_exceptions.md
R530). -/
def endStep (s t : State) : State :=
  let l := currentLines s
  countStep (if l.reset then enterReset s t else sampleInterrupts l t)

/-- A step while `nReset` is held LOW: it is still held, or it is released (spec/70_reset_and_hazards.md R600, R605). -/
def resetStep (s : State) : State := countStep (if (currentLines s).reset then s else releaseReset s)

/-- One step of the machine (R225). An instruction that stops the run stops it whatever `nReset` is at the end of its
step: DESIGN CHOICE, log 15. -/
def cycle (s : State) : Result :=
  if s.inReset then .next (resetStep s)
  else
    match runInstruction s with
    | .next t => .next (endStep s t)
    | .fault r => .fault r
    | .refused r => .refused r

/-- The four requests that fetch instructions (R103). -/
def fetchKinds : List RequestKind := [.fetch, .fetchS, .spec, .specS]

/-- What `State.withFetchWord` does: the word is stored at the PC in the configured byte order as if it had always been
there (it is no stale word, its fetch does not abort, no IMB is owed there and reset is not held), log 7. -/
def placeAtPc (s : State) (w : Word) : State :=
  let t := setWord s s.pc w
  { t with
    stale := s.stale.filter fun a => a != s.pc.toNat
    abortMap := s.abortMap.filter fun r =>
      fetchKinds.all fun k => !regionAborts r k (privileged s) (is26 s.cpsr.mode) s.pc
    imbOwed := s.imbOwed.filter fun a => a != s.pc
    inReset := false }

end Sys2Proof.Machine
end

