-- ==== Sys2Proof/Machine/Step.lean ====
section
/-! DEFINITION. One step of the machine, and the placing of an instruction where the next step fetches. -/

namespace Sys2Proof.Machine

/-- One step (spec/40_conditional_execution.md R225). -/
def step (s : State) : Host.Outcome State Fault Refusal := cycle s

/-- The instruction whose bits are `w` placed where the next step fetches (log 7). -/
def State.withFetchWord (s : State) (nbits w : Nat) : State := placeAtPc s (BitVec.ofNat 32 (w % 2 ^ nbits))

end Sys2Proof.Machine
end

