-- ==== Sys2Proof/Safety.lean ====
section
/-! DEFINITION. What a safe state and a safe run are, in the terms statements use. -/

namespace Sys2Proof.Machine

/-- The stale set's form: word addresses strictly rising from `lo`, below 2^32 (spec/20_memory.md R127). -/
def staleWf : Nat → List Nat → Bool
  | _, [] => true
  | lo, a :: l => decide (lo ≤ a) && decide (a % 4 = 0) && decide (a < 2 ^ 32) && staleWf (a + 1) l

/-- The PC is a multiple of 4, and in a 26-bit mode its top 6 bits are zero (spec/10_state.md R37, R43). -/
def pcWf (s : State) : Bool := pcOf s.cpsr.mode s.pc == s.pc

/-- What every step keeps: the PC's form, memory's canonical form and the stale set's form. -/
def Inv (s : State) : Prop := pcWf s = true ∧ s.mem.wf = true ∧ staleWf 0 s.stale = true

/-- `k` steps from a state end in a next state: no fault, no refusal. -/
def SafeFor (k : Nat) (s : State) : Prop := ∃ t, Sys2Proof.core.run k s = .next t

end Sys2Proof.Machine
end

