-- ==== Sys2Proof/Certificates/Slice0/Obligations.lean ====
section
/-! DEFINITION. The statements for the provers. The vocabulary they share stands in `Sys2Proof.Claims`: what is kept,
what a register holds, and the results the rules of spec/ give, written apart from the model's own operations. -/

namespace Sys2Proof.Claims

open Sys2Proof.Machine

/-! ### What is kept -/

/-- The physical register a register number names in the current mode, none for R15. -/
def reg (s : State) (i : RegNo) : Option PhysReg := physReg s.cpsr.mode i

/-- The register that `i` names in `s` holds `v` in `t`. -/
def Holds (s t : State) (i : RegNo) (v : Word) : Prop := ∃ r, reg s i = some r ∧ getPhys t r = v

/-- Every general register but those listed is unchanged, in every bank. -/
def RegsKeptBut (s t : State) (l : List (Option PhysReg)) : Prop :=
  ∀ r : PhysReg, some r ∉ l → getPhys t r = getPhys s r

/-- Every byte of memory is unchanged. -/
def MemKept (s t : State) : Prop := ∀ a : Word, byteAt t a = byteAt s a

/-- Every byte of memory but the `n` bytes from `first` on is unchanged. -/
def MemKeptOutside (s t : State) (first : Word) (n : Nat) : Prop :=
  ∀ a : Word, n ≤ (a - first).toNat → byteAt t a = byteAt s a

/-- The inputs of the machine and its count of steps are unchanged. -/
def InputsKept (s t : State) : Prop :=
  t.lines = s.lines ∧ t.abortMap = s.abortMap ∧ t.presentCps = s.presentCps ∧ t.bigend = s.bigend
    ∧ t.trapClassesBtoE = s.trapClassesBtoE ∧ t.inReset = s.inReset ∧ t.tick = s.tick

/-- Nothing was exchanged with the coprocessors. -/
def CoprocKept (s t : State) : Prop :=
  t.coproc = s.coproc ∧ t.coprocLog = s.coprocLog ∧ t.controlLog = s.controlLog

/-- The records of the barrier and of the user-bank hazard are unchanged. -/
def RecordsKept (s t : State) : Prop :=
  t.imbOwed = s.imbOwed ∧ t.imbReturn = s.imbReturn ∧ t.hazardStep = s.hazardStep

/-- Everything that is neither a general register, the PC, a status register, memory nor the stale set. -/
def RestKept (s t : State) : Prop := InputsKept s t ∧ CoprocKept s t ∧ RecordsKept s t

/-- The word address of one data write joins the stale set. -/
def StaleWith (s t : State) (a : Word) : Prop := ∀ x, x ∈ t.stale ↔ x ∈ s.stale ∨ x = (wordBase a).toNat

/-- The next sequential instruction exists: 26-bit code is not at its last word (R82). -/
def Fits (s : State) : Prop := ¬ (is26 s.cpsr.mode = true ∧ s.pc = 0x03FFFFFC)

/-- The next instruction follows, by a sequential fetch (R225, R103). -/
def Advanced (s t : State) : Prop := t.pc = s.pc + 4 ∧ t.nextFetch = .sequential

/-- What an instruction that writes one register keeps: memory, the SPSRs and the rest; the next instruction follows. -/
def PlainFrame (s t : State) : Prop :=
  Advanced s t ∧ t.spsr = s.spsr ∧ t.stale = s.stale ∧ MemKept s t ∧ RestKept s t

/-- The frame of a jump: as `PlainFrame`, but for the PC. -/
def JumpFrame (s t : State) : Prop := t.spsr = s.spsr ∧ t.stale = s.stale ∧ MemKept s t ∧ RestKept s t

/-- An address as the PC of a mode takes it: bits 1:0 dropped, and in a 26-bit mode bits 31:26 (R42, R43). -/
def pcAfter (m : Mode) (v : Word) : Word :=
  BitVec.ofNat 32 ((if is26 m then v.toNat % 2 ^ 26 else v.toNat) / 4 * 4)

/-! ### Exception entry -/

/-- What entering an exception does to the state (R506): R14 and the SPSR of the new mode, the mode, I, perhaps F, and the
PC, whose fetch is not sequential (R118); nothing else. -/
def Entered (bank : Bank) (mode : Mode) (vector ret : Word) (setsF : Bool) (s t : State) : Prop :=
  getPhys t (.r14 bank) = ret ∧ RegsKeptBut s t [some (.r14 bank)]
    ∧ getSpsr t bank = some (cpsrToPsr s.cpsr) ∧ (∀ b, b ≠ bank → getSpsr t b = getSpsr s b)
    ∧ t.cpsr = { s.cpsr with i := true, f := s.cpsr.f || setsF, mode := mode }
    ∧ t.pc = vector ∧ MemKept s t ∧ InputsKept s t
    ∧ t.hazardStep = s.hazardStep ∧ t.imbOwed = s.imbOwed ∧ t.nextFetch = .nonSequential

/-- The address `n` bytes after the instruction as R14 receives it: from a 26-bit mode only the PC (R540, log 35). -/
def retAfter (s : State) (n : Word) : Word := if is26 s.cpsr.mode then (s.pc + n) &&& 0x03FFFFFF else s.pc + n

/-- The Data Abort of the instruction at the PC (R512). -/
def DataAborted (s t : State) : Prop :=
  Entered .abt .abt 0x10 (retAfter s 8) false s t ∧ t.stale = s.stale ∧ CoprocKept s t ∧ t.imbReturn = s.imbReturn

/-- The Undefined Instruction trap of the instruction at the PC (R471). -/
def Trapped (s t : State) : Prop :=
  Entered .und .und 0x04 (retAfter s 4) false s t ∧ t.stale = s.stale ∧ t.coprocLog = s.coprocLog
    ∧ t.controlLog = s.controlLog ∧ t.imbReturn = s.imbReturn

/-! ### Data processing -/

/-- The three forms of a second operand (R250). -/
inductive Op2 where
  | imm (rotate : BitVec 4) (imm : BitVec 8)
  | shiftImm (amount : BitVec 5) (ty : ShiftType) (rm : RegNo)
  | shiftReg (rs : RegNo) (ty : ShiftType) (rm : RegNo)

/-- The instruction of an operation and a second operand; `sb` is no field of a test. -/
def dp (op : AluOp) (c : Cond) (sb : Bool) (rn rd : RegNo) : Op2 → Instr
  | .imm r k =>
    match op with
    | .and => .andImm c sb rn rd r k
    | .eor => .eorImm c sb rn rd r k
    | .sub => .subImm c sb rn rd r k
    | .rsb => .rsbImm c sb rn rd r k
    | .add => .addImm c sb rn rd r k
    | .adc => .adcImm c sb rn rd r k
    | .sbc => .sbcImm c sb rn rd r k
    | .rsc => .rscImm c sb rn rd r k
    | .tst => .tstImm c rn rd r k
    | .teq => .teqImm c rn rd r k
    | .cmp => .cmpImm c rn rd r k
    | .cmn => .cmnImm c rn rd r k
    | .orr => .orrImm c sb rn rd r k
    | .mov => .movImm c sb rn rd r k
    | .bic => .bicImm c sb rn rd r k
    | .mvn => .mvnImm c sb rn rd r k
  | .shiftImm n ty rm =>
    match op with
    | .and => .andShiftImm c sb rn rd n ty rm
    | .eor => .eorShiftImm c sb rn rd n ty rm
    | .sub => .subShiftImm c sb rn rd n ty rm
    | .rsb => .rsbShiftImm c sb rn rd n ty rm
    | .add => .addShiftImm c sb rn rd n ty rm
    | .adc => .adcShiftImm c sb rn rd n ty rm
    | .sbc => .sbcShiftImm c sb rn rd n ty rm
    | .rsc => .rscShiftImm c sb rn rd n ty rm
    | .tst => .tstShiftImm c rn rd n ty rm
    | .teq => .teqShiftImm c rn rd n ty rm
    | .cmp => .cmpShiftImm c rn rd n ty rm
    | .cmn => .cmnShiftImm c rn rd n ty rm
    | .orr => .orrShiftImm c sb rn rd n ty rm
    | .mov => .movShiftImm c sb rn rd n ty rm
    | .bic => .bicShiftImm c sb rn rd n ty rm
    | .mvn => .mvnShiftImm c sb rn rd n ty rm
  | .shiftReg rs ty rm =>
    match op with
    | .and => .andShiftReg c sb rn rd rs ty rm
    | .eor => .eorShiftReg c sb rn rd rs ty rm
    | .sub => .subShiftReg c sb rn rd rs ty rm
    | .rsb => .rsbShiftReg c sb rn rd rs ty rm
    | .add => .addShiftReg c sb rn rd rs ty rm
    | .adc => .adcShiftReg c sb rn rd rs ty rm
    | .sbc => .sbcShiftReg c sb rn rd rs ty rm
    | .rsc => .rscShiftReg c sb rn rd rs ty rm
    | .tst => .tstShiftReg c rn rd rs ty rm
    | .teq => .teqShiftReg c rn rd rs ty rm
    | .cmp => .cmpShiftReg c rn rd rs ty rm
    | .cmn => .cmnShiftReg c rn rd rs ty rm
    | .orr => .orrShiftReg c sb rn rd rs ty rm
    | .mov => .movShiftReg c sb rn rd rs ty rm
    | .bic => .bicShiftReg c sb rn rd rs ty rm
    | .mvn => .mvnShiftReg c sb rn rd rs ty rm

/-- The value and the carry-out of a second operand (R251). -/
def op2Value (s : State) : Op2 → ShifterOut
  | .imm r k => immediateOperand r k s.cpsr.c
  | .shiftImm n ty rm => shiftByImmediate ty (readReg s .m rm) n.toNat s.cpsr.c
  | .shiftReg rs ty rm => shiftByRegister ty (readReg s .m rm) ((readReg s .s rs).toNat % 256) s.cpsr.c

/-- The operation reads Rn. -/
def readsRn (op : AluOp) : Prop := op ≠ .mov ∧ op ≠ .mvn

/-- The registers read are ones the spec lets be read: no R15 with a register-controlled shift (R258), no R15 in a 26-bit
mode (R43). -/
def Readable (s : State) (op : AluOp) (rn : RegNo) : Op2 → Prop
  | .imm _ _ => is26 s.cpsr.mode = true → readsRn op → rn ≠ 15
  | .shiftImm _ _ rm => is26 s.cpsr.mode = true → rm ≠ 15 ∧ (readsRn op → rn ≠ 15)
  | .shiftReg rs _ rm => rs ≠ 15 ∧ rm ≠ 15 ∧ (readsRn op → rn ≠ 15)

/-- The results of R267 to R282 as the source names them: sums, differences and bitwise operations. -/
def aluValue (op : AluOp) (a b : Word) (c : Bool) : Word :=
  match op with
  | .and | .tst => a &&& b
  | .eor | .teq => a ^^^ b
  | .sub | .cmp => a - b
  | .rsb => b - a
  | .add | .cmn => a + b
  | .adc => a + b + BitVec.ofNat 32 c.toNat
  | .sbc => a - b + BitVec.ofNat 32 c.toNat - 1
  | .rsc => b - a + BitVec.ofNat 32 c.toNat - 1
  | .orr => a ||| b
  | .mov => b
  | .bic => a &&& ~~~b
  | .mvn => ~~~b

/-- The operations of R253; the others are those of R254. -/
def logical (op : AluOp) : Prop := op ∈ [AluOp.and, .eor, .tst, .teq, .orr, .mov, .bic, .mvn]

/-- The carry of an arithmetic operation (R254): a sum that reaches 2^32, a difference that needs no borrow. -/
def aluCarry (op : AluOp) (a b : Word) (c : Bool) : Prop :=
  match op with
  | .sub | .cmp => b.toNat ≤ a.toNat
  | .rsb => a.toNat ≤ b.toNat
  | .add | .cmn => 2 ^ 32 ≤ a.toNat + b.toNat
  | .adc => 2 ^ 32 ≤ a.toNat + b.toNat + c.toNat
  | .sbc => b.toNat + 1 ≤ a.toNat + c.toNat
  | .rsc => a.toNat + 1 ≤ b.toNat + c.toNat
  | .and | .eor | .tst | .teq | .orr | .mov | .bic | .mvn => False

/-- The exact signed result of an arithmetic operation. -/
def exactSigned (op : AluOp) (a b : Word) (c : Bool) : Int :=
  match op with
  | .sub | .cmp => a.toInt - b.toInt
  | .rsb => b.toInt - a.toInt
  | .add | .cmn => a.toInt + b.toInt
  | .adc => a.toInt + b.toInt + c.toNat
  | .sbc => a.toInt - b.toInt + c.toNat - 1
  | .rsc => b.toInt - a.toInt + c.toNat - 1
  | .and | .eor | .tst | .teq | .orr | .mov | .bic | .mvn => 0

/-- A signed overflow out of 32 bits (R254). -/
def Overflows (x : Int) : Prop := x < -2 ^ 31 ∨ 2 ^ 31 ≤ x

/-- The flags of an operation that sets them: N, Z, C and V by R253 or R254; I, F and the mode kept. -/
def FlagsSet (s t : State) (op : AluOp) (a : Word) (b : ShifterOut) : Prop :=
  let v := aluValue op a b.value s.cpsr.c
  t.cpsr.n = v.getLsbD 31 ∧ (t.cpsr.z = true ↔ v = 0)
    ∧ (logical op → t.cpsr.c = b.carry ∧ t.cpsr.v = s.cpsr.v)
    ∧ (¬ logical op → (t.cpsr.c = true ↔ aluCarry op a b.value s.cpsr.c)
        ∧ (t.cpsr.v = true ↔ Overflows (exactSigned op a b.value s.cpsr.c)))
    ∧ t.cpsr.i = s.cpsr.i ∧ t.cpsr.f = s.cpsr.f ∧ t.cpsr.mode = s.cpsr.mode

/-- What an operation that writes a register other than R15 does, in its three forms (R252, R255). -/
def AluWrites (op : AluOp) : Prop :=
  ∀ (c : Cond) (sb : Bool) (rn rd : RegNo) (o : Op2) (s : State),
    conditionPassed c s.cpsr = true → rd ≠ 15 → Readable s op rn o → Fits s →
      let b := op2Value s o
      ∃ t, exec (dp op c sb rn rd o) s = .next t
        ∧ Holds s t rd (aluValue op (readReg s .n rn) b.value s.cpsr.c) ∧ RegsKeptBut s t [reg s rd]
        ∧ (sb = true → FlagsSet s t op (readReg s .n rn) b) ∧ (sb = false → t.cpsr = s.cpsr)
        ∧ PlainFrame s t

/-- The bits a 26-bit form takes into the CPSR: N, Z, C, V, and outside User mode I, F, M1 and M0 (R284, R285, R408). -/
def Psr26Written (s t : State) (v : Word) : Prop :=
  t.cpsr.n = v.getLsbD 31 ∧ t.cpsr.z = v.getLsbD 30 ∧ t.cpsr.c = v.getLsbD 29 ∧ t.cpsr.v = v.getLsbD 28
    ∧ (s.cpsr.mode = .usr26 → t.cpsr.i = s.cpsr.i ∧ t.cpsr.f = s.cpsr.f ∧ t.cpsr.mode = .usr26)
    ∧ (s.cpsr.mode ≠ .usr26 → t.cpsr.i = v.getLsbD 27 ∧ t.cpsr.f = v.getLsbD 26
        ∧ modeBits t.cpsr.mode = 0#3 ++ v.extractLsb' 0 2)

/-! ### Single, halfword and block transfers -/

/-- `v` is `w` rotated right by `n` bits. -/
def RotatedRight (v w : Word) (n : Nat) : Prop := ∀ k < 32, v.getLsbD k = w.getLsbD ((k + n) % 32)

/-- The offset of a single transfer (R341). -/
inductive Offset where
  | imm (v : BitVec 12)
  | reg (amount : BitVec 5) (ty : ShiftType) (rm : RegNo)

/-- The indexing of a single transfer: `user` is a T form (R340). -/
inductive Index where
  | pre (wb : Bool)
  | post
  | user

/-- The four single transfers (R340). -/
inductive Single where
  | ldr | ldrb | str | strb
  deriving DecidableEq

/-- The instruction of a single transfer. -/
def single (k : Single) (c : Cond) (up : Bool) (rn rd : RegNo) (ix : Index) (o : Offset) : Instr :=
  match k with
  | .ldr =>
    match ix, o with
    | .pre wb, .imm v => .ldrImmPre c up wb rn rd v
    | .post, .imm v => .ldrImmPost c up rn rd v
    | .user, .imm v => .ldrtImm c up rn rd v
    | .pre wb, .reg n ty rm => .ldrRegPre c up wb rn rd n ty rm
    | .post, .reg n ty rm => .ldrRegPost c up rn rd n ty rm
    | .user, .reg n ty rm => .ldrtReg c up rn rd n ty rm
  | .ldrb =>
    match ix, o with
    | .pre wb, .imm v => .ldrbImmPre c up wb rn rd v
    | .post, .imm v => .ldrbImmPost c up rn rd v
    | .user, .imm v => .ldrbtImm c up rn rd v
    | .pre wb, .reg n ty rm => .ldrbRegPre c up wb rn rd n ty rm
    | .post, .reg n ty rm => .ldrbRegPost c up rn rd n ty rm
    | .user, .reg n ty rm => .ldrbtReg c up rn rd n ty rm
  | .str =>
    match ix, o with
    | .pre wb, .imm v => .strImmPre c up wb rn rd v
    | .post, .imm v => .strImmPost c up rn rd v
    | .user, .imm v => .strtImm c up rn rd v
    | .pre wb, .reg n ty rm => .strRegPre c up wb rn rd n ty rm
    | .post, .reg n ty rm => .strRegPost c up rn rd n ty rm
    | .user, .reg n ty rm => .strtReg c up rn rd n ty rm
  | .strb =>
    match ix, o with
    | .pre wb, .imm v => .strbImmPre c up wb rn rd v
    | .post, .imm v => .strbImmPost c up rn rd v
    | .user, .imm v => .strbtImm c up rn rd v
    | .pre wb, .reg n ty rm => .strbRegPre c up wb rn rd n ty rm
    | .post, .reg n ty rm => .strbRegPost c up rn rd n ty rm
    | .user, .reg n ty rm => .strbtReg c up rn rd n ty rm

/-- P = 1. -/
def isPre : Index → Bool
  | .pre _ => true
  | .post | .user => false

/-- The base register receives the moved base (R342). -/
def writesBase : Index → Bool
  | .pre wb => wb
  | .post | .user => true

/-- The `Privileged` attribute of the access: LOW in User mode and for the T forms (R101, R347). -/
def accessPrivileged (s : State) : Index → Bool
  | .pre _ | .post => isPrivileged s.cpsr.mode
  | .user => false

/-- The value of an offset. -/
def offsetValue (s : State) : Offset → Word
  | .imm v => BitVec.ofNat 32 v.toNat
  | .reg n ty rm => (shiftByImmediate ty (readReg s .m rm) n.toNat s.cpsr.c).value

/-- The address of a single transfer. -/
def singleAddress (s : State) (up : Bool) (rn : RegNo) (ix : Index) (o : Offset) : Word :=
  transferAddress (isPre ix) up (readReg s .n rn) (offsetValue s o)

/-- The moved base. -/
def singleBase (s : State) (up : Bool) (rn : RegNo) (o : Offset) : Word :=
  indexed up (readReg s .n rn) (offsetValue s o)

/-- The uses of registers and addresses that R348 to R353 forbid. -/
def SingleForbidden (s : State) (k : Single) (up : Bool) (rn rd : RegNo) (ix : Index) (o : Offset) : Prop :=
  (writesBase ix = true ∧ rn = 15) ∨ (k ∈ [Single.ldrb, .strb] ∧ rd = 15)
    ∨ (k ∈ [Single.ldr, .ldrb] ∧ writesBase ix = true ∧ rd = rn)
    ∨ (rd = 15 ∧ (singleAddress s up rn ix o).toNat % 4 ≠ 0)
    ∨ (match o with | .imm _ => False | .reg _ _ rm => rm = 15 ∨ (isPre ix = false ∧ rm = rn))

/-- A single transfer the spec gives an effect: not forbidden, and no read of R15 in a 26-bit mode (R43). -/
def SingleAllowed (s : State) (k : Single) (up : Bool) (rn rd : RegNo) (ix : Index) (o : Offset) : Prop :=
  ¬ SingleForbidden s k up rn rd ix o
    ∧ (is26 s.cpsr.mode = true → rn ≠ 15 ∧ (k ∈ [Single.str, .strb] → rd ≠ 15))

/-- The registers a transfer into `rd` with or without write-back changes. -/
def loadTargets (s : State) (wb : Bool) (rn rd : RegNo) : List (Option PhysReg) :=
  if wb then [reg s rd, reg s rn] else [reg s rd]

/-- The base register alone, when it is written back. -/
def baseTarget (s : State) (wb : Bool) (rn : RegNo) : List (Option PhysReg) := if wb then [reg s rn] else []

/-- The frame of a store: registers but the base, the CPSR and the SPSRs kept; the written word address stale; the next
instruction follows. -/
def StoreFrame (s t : State) (wb : Bool) (rn : RegNo) (moved addr : Word) : Prop :=
  (wb = true → Holds s t rn moved) ∧ RegsKeptBut s t (baseTarget s wb rn) ∧ t.cpsr = s.cpsr ∧ t.spsr = s.spsr
    ∧ StaleWith s t addr ∧ RestKept s t ∧ Advanced s t

/-- The offset of a halfword or signed transfer (R371). -/
inductive HalfOffset where
  | imm (v : BitVec 8)
  | reg (rm : RegNo)

/-- The four halfword and signed transfers (R370). -/
inductive HalfKind where
  | ldrh | ldrsb | ldrsh | strh
  deriving DecidableEq

/-- The instruction of a halfword or signed transfer: `pre` is `some W` when pre-indexed. -/
def half (k : HalfKind) (c : Cond) (up : Bool) (rn rd : RegNo) (pre : Option Bool) (o : HalfOffset) : Instr :=
  match k with
  | .ldrh =>
    match pre, o with
    | some wb, .imm v => .ldrhImmPre c up wb rn rd v
    | none, .imm v => .ldrhImmPost c up rn rd v
    | some wb, .reg rm => .ldrhRegPre c up wb rn rd rm
    | none, .reg rm => .ldrhRegPost c up rn rd rm
  | .ldrsb =>
    match pre, o with
    | some wb, .imm v => .ldrsbImmPre c up wb rn rd v
    | none, .imm v => .ldrsbImmPost c up rn rd v
    | some wb, .reg rm => .ldrsbRegPre c up wb rn rd rm
    | none, .reg rm => .ldrsbRegPost c up rn rd rm
  | .ldrsh =>
    match pre, o with
    | some wb, .imm v => .ldrshImmPre c up wb rn rd v
    | none, .imm v => .ldrshImmPost c up rn rd v
    | some wb, .reg rm => .ldrshRegPre c up wb rn rd rm
    | none, .reg rm => .ldrshRegPost c up rn rd rm
  | .strh =>
    match pre, o with
    | some wb, .imm v => .strhImmPre c up wb rn rd v
    | none, .imm v => .strhImmPost c up rn rd v
    | some wb, .reg rm => .strhRegPre c up wb rn rd rm
    | none, .reg rm => .strhRegPost c up rn rd rm

/-- The base register receives the moved base (R372). -/
def halfWritesBase : Option Bool → Bool
  | some wb => wb
  | none => true

/-- The value of an offset. -/
def halfOffsetValue (s : State) : HalfOffset → Word
  | .imm v => BitVec.ofNat 32 v.toNat
  | .reg rm => readReg s .m rm

/-- The address of a halfword or signed transfer. -/
def halfAddress (s : State) (up : Bool) (rn : RegNo) (pre : Option Bool) (o : HalfOffset) : Word :=
  transferAddress pre.isSome up (readReg s .n rn) (halfOffsetValue s o)

/-- The moved base. -/
def halfBase (s : State) (up : Bool) (rn : RegNo) (o : HalfOffset) : Word :=
  indexed up (readReg s .n rn) (halfOffsetValue s o)

/-- The uses R378 and R380 forbid. -/
def HalfForbidden (s : State) (k : HalfKind) (up : Bool) (rn rd : RegNo) (pre : Option Bool) (o : HalfOffset) : Prop :=
  rd = 15 ∨ (halfWritesBase pre = true ∧ rn = 15) ∨ (k ≠ .strh ∧ halfWritesBase pre = true ∧ rd = rn)
    ∨ (k = .strh ∧ (halfAddress s up rn pre o).toNat % 2 = 1)
    ∨ (match o with | .imm _ => False | .reg rm => rm = 15 ∨ (pre = none ∧ rm = rn))

/-- A halfword or signed transfer the spec gives an effect. -/
def HalfAllowed (s : State) (k : HalfKind) (up : Bool) (rn rd : RegNo) (pre : Option Bool) (o : HalfOffset) : Prop :=
  ¬ HalfForbidden s k up rn rd pre o ∧ (is26 s.cpsr.mode = true → rn ≠ 15)

/-- What LDRH, LDRSB or LDRSH loads: zero- or sign-extended; from an odd address a halfword load is free (R379). -/
def HalfLoaded (s : State) (k : HalfKind) (addr v : Word) : Prop :=
  match k with
  | .ldrh => addr.toNat % 2 = 0 → v.toNat = (halfAt s addr).toNat
  | .ldrsb => v.toInt = (byteAt s addr).toInt
  | .ldrsh => addr.toNat % 2 = 0 → v.toInt = (halfAt s addr).toInt
  | .strh => False

/-- The request of a halfword or signed load. -/
def halfRequest : HalfKind → RequestKind
  | .ldrh | .ldrsh => .loadH
  | .ldrsb => .loadB
  | .strh => .storeH

/-- The address of transfer `k` of a block (R392). -/
def blockAt (start : Word) (k : Nat) : Word := start + BitVec.ofNat 32 (4 * k)

/-- Transfer `k` of a block load of `n` words is answered with an abort. -/
def ReadAborts (s : State) (start : Word) (n k : Nat) : Prop :=
  requestAborts s (blockLoadKind (k == 0) (k + 1 == n)) (isPrivileged s.cpsr.mode) (blockAt start k) = true

/-- Transfer `k` of a block store of `n` words is answered with an abort. -/
def WriteAborts (s : State) (start : Word) (n k : Nat) : Prop :=
  requestAborts s (blockStoreKind (k == 0) (k + 1 == n)) (isPrivileged s.cpsr.mode) (blockAt start k) = true

/-- The first address of a block transfer with this base and list. -/
def firstOf (s : State) (pre up : Bool) (rn : RegNo) (list : BitVec 16) : Word :=
  blockStart pre up (readReg s .n rn) (registerList list).length

/-- The value a block transfer writes back. -/
def backOf (s : State) (up : Bool) (rn : RegNo) (list : BitVec 16) : Word :=
  blockWriteBack up (readReg s .n rn) (registerList list).length

/-- Every register of the list, R15 apart, holds its word of memory, by the bank `phys`. -/
def Loaded (phys : RegNo → Option PhysReg) (s t : State) (list : BitVec 16) (start : Word) : Prop :=
  ∀ k i r, (registerList list)[k]? = some i → phys i = some r → getPhys t r = wordAt s (blockAt start k)

/-- The word of memory for the last register of the list, which is R15 when it is there. -/
def lastWord (s : State) (list : BitVec 16) (start : Word) : Word :=
  wordAt s (blockAt start ((registerList list).length - 1))

/-- Every general register that is not in the list, by the bank `phys`, nor a base written back is unchanged. -/
def UnlistedKept (phys : RegNo → Option PhysReg) (s t : State) (list : BitVec 16) (base : List (Option PhysReg)) : Prop :=
  ∀ r : PhysReg, (∀ i, phys i = some r → list.getLsbD i.toNat = false) → some r ∉ base → getPhys t r = getPhys s r

/-- The first `n` transfers of a block store are in memory and in the stale set, and nothing else changed there. `value`
gives the word of a register where the spec states it. -/
def StoredWords (s t : State) (list : BitVec 16) (start : Word) (n : Nat) (value : RegNo → Option Word) : Prop :=
  (∀ k i v, k < n → (registerList list)[k]? = some i → value i = some v → wordAt t (blockAt start k) = v)
    ∧ (∀ a : Word, (∀ k < n, 4 ≤ (a - wordBase (blockAt start k)).toNat) → byteAt t a = byteAt s a)
    ∧ (∀ x, x ∈ t.stale ↔ x ∈ s.stale ∨ ∃ k < n, x = (wordBase (blockAt start k)).toNat)

/-- The word STM stores for a register (R397): R15 as read, for the base the old base if it is not written back or is the
lowest register, else unstated (R399). -/
def stmWord (s : State) (wb : Bool) (rn : RegNo) (list : BitVec 16) (i : RegNo) : Option Word :=
  if i = rn then (if wb = true ∧ (registerList list).head? ≠ some i then none else some (readReg s .n rn))
  else some (readReg s .d i)

/-- Everything but memory, the stale set and the listed registers is unchanged. -/
def OnlyMemory (s t : State) (l : List (Option PhysReg)) : Prop :=
  RegsKeptBut s t l ∧ t.cpsr = s.cpsr ∧ t.spsr = s.spsr ∧ RestKept s t

/-- A CPSR with the fields of an SPSR (R44, R47). -/
def CpsrOf (p : Psr) (q : Cpsr) : Prop :=
  q.n = p.n ∧ q.z = p.z ∧ q.c = p.c ∧ q.v = p.v ∧ q.i = p.i ∧ q.f = p.f ∧ modeBits q.mode = p.m

/-- The bits of a word that a PSR defines (R44). -/
def PsrBits (w : Word) (p : Psr) : Prop :=
  w.getLsbD 31 = p.n ∧ w.getLsbD 30 = p.z ∧ w.getLsbD 29 = p.c ∧ w.getLsbD 28 = p.v
    ∧ w.getLsbD 7 = p.i ∧ w.getLsbD 6 = p.f ∧ w.extractLsb' 0 5 = p.m

/-- The modes without an SPSR (R32). -/
def noSpsr (m : Mode) : Prop := m = .usr ∨ m = .sys ∨ m = .usr26

/-- Bits 31:28 of a word are the flags, everything else of the CPSR is kept. -/
def FlagsFrom (s t : State) (w : Word) : Prop :=
  t.cpsr = { s.cpsr with n := w.getLsbD 31, z := w.getLsbD 30, c := w.getLsbD 29, v := w.getLsbD 28 }

/-- The source of MSR: a register or a rotated immediate (R303). -/
inductive MsrSource where
  | reg (rm : RegNo)
  | imm (rotate : BitVec 4) (imm : BitVec 8)

/-- MSR to the CPSR. -/
def msrCpsr (c : Cond) (mask : FieldMask) : MsrSource → Instr
  | .reg rm => .msrCpsrReg c mask rm
  | .imm r k => .msrCpsrImm c mask r k

/-- MSR to the SPSR. -/
def msrSpsr (c : Cond) (mask : FieldMask) : MsrSource → Instr
  | .reg rm => .msrSpsrReg c mask rm
  | .imm r k => .msrSpsrImm c mask r k

/-- The word an MSR moves, none from R15. -/
def msrWord (s : State) : MsrSource → Option Word
  | .reg rm => if rm = 15 then none else some (readReg s .m rm)
  | .imm r k => some (rotatedImmediate r k)

/-- The words whose execution is always the Undefined Instruction trap or an offer to the coprocessors. -/
def undefinedBE (c : Cond) (bits : BitVec 28) : List Instr :=
  [.undefinedB1 c bits, .undefinedB2 c bits, .undefinedB3 c bits, .undefinedB4 c bits, .undefinedB5 c bits,
    .undefinedC c bits, .undefinedD1 c bits, .undefinedD2 c bits, .undefinedD3 c bits, .undefinedE1 c bits,
    .undefinedE2 c bits, .undefinedE3 c bits, .undefinedE4 c bits]

/-- The coprocessor instructions: what is offered to the coprocessors when their condition passes (R451). -/
inductive Offered : Instr → Prop where
  | cdp (c opc crn crd cp info crm) : Offered (.cdp c opc crn crd cp info crm)
  | ldc (c pre up long wb rn crd cp offset) : Offered (.ldc c pre up long wb rn crd cp offset)
  | stc (c pre up long wb rn crd cp offset) : Offered (.stc c pre up long wb rn crd cp offset)
  | mrc (c opc crn rd cp info crm) : Offered (.mrc c opc crn rd cp info crm)
  | mcr (c opc crn rd cp info crm) : rd ≠ 15 → Offered (.mcr c opc crn rd cp info crm)

/-- CDP, LDC and STC, which no coprocessor may accept (R450). -/
inductive Unsupported : Instr → Prop where
  | cdp (c opc crn crd cp info crm) : Unsupported (.cdp c opc crn crd cp info crm)
  | ldc (c pre up long wb rn crd cp offset) : Unsupported (.ldc c pre up long wb rn crd cp offset)
  | stc (c pre up long wb rn crd cp offset) : Unsupported (.stc c pre up long wb rn crd cp offset)

end Sys2Proof.Claims

open Sys2Proof Sys2Proof.Machine Sys2Proof.Claims

/-! ### Modes, registers, conditions -/

/-- R57: what reset leaves in the PC and the CPSR; the registers and flags it does not state are not spoken of. -/
def Obligations.ResetState : Prop :=
  State.reset.pc = 0 ∧ modeBits State.reset.cpsr.mode = 0b10011 ∧ State.reset.cpsr.i = true
    ∧ State.reset.cpsr.f = true ∧ State.reset.stale = [] ∧ State.reset.inReset = false

/-- R47: the eleven mode numbers, which modes are privileged and which SPSR each has; every other number is invalid
(R48). -/
def Obligations.ModeTable : Prop :=
  [Mode.usr, .fiq, .irq, .svc, .abt, .und, .sys, .usr26, .fiq26, .irq26, .svc26].map modeBits
      = [0b10000, 0b10001, 0b10010, 0b10011, 0b10111, 0b11011, 0b11111, 0b00000, 0b00001, 0b00010, 0b00011]
    ∧ (∀ v m, modeOfBits v = some m ↔ v = modeBits m)
    ∧ (∀ m, isPrivileged m = false ↔ m = .usr ∨ m = .usr26)
    ∧ (∀ s : State, [Bank.usr, .fiq, .irq, .svc, .abt, .und].map (getSpsr s)
      = [none, some s.spsr.fiq, some s.spsr.irq, some s.spsr.svc, some s.spsr.abt, some s.spsr.und])
    ∧ [Mode.usr, .fiq, .irq, .svc, .abt, .und, .sys, .usr26, .fiq26, .irq26, .svc26].map modeBank
      = [.usr, .fiq, .irq, .svc, .abt, .und, .usr, .usr, .fiq, .irq, .svc]

/-- R33: the physical register of every register number in every mode, the User bank and the SPSR of a mode; a write
reaches that register and no other, and R15 is none of them: read as an operand it is the instruction's address plus 8
(R39). -/
def Obligations.RegisterBanks : Prop :=
  (∀ m, (∀ k : Fin 8, physReg m (BitVec.ofNat 4 k) = some (.low k))
      ∧ (∀ k : Fin 5, physReg m (BitVec.ofNat 4 (k + 8))
          = if m = .fiq ∨ m = .fiq26 then some (.midFiq k) else some (.mid k))
      ∧ physReg m 13 = some (.r13 (modeBank m)) ∧ physReg m 14 = some (.r14 (modeBank m)) ∧ physReg m 15 = none)
    ∧ [Mode.usr, .sys, .usr26, .fiq, .fiq26, .irq, .irq26, .svc, .svc26, .abt, .und].map modeBank
        = [.usr, .usr, .usr, .fiq, .fiq, .irq, .irq, .svc, .svc, .abt, .und]
    ∧ (∀ s i r, reg s i = some r → hazardNow s = false → ∀ p, readReg s p i = getPhys s r)
    ∧ (∀ s i r, physReg .usr i = some r → readUserReg s i = getPhys s r)
    ∧ (∀ s i v, i ≠ 15 → Holds s (writeReg s i v) i v ∧ RegsKeptBut s (writeReg s i v) [reg s i])
    ∧ (∀ s i r v, physReg .usr i = some r →
        getPhys (writeUserReg s i v) r = v ∧ RegsKeptBut s (writeUserReg s i v) [some r])
    ∧ (∀ s, currentSpsr s = getSpsr s (modeBank s.cpsr.mode))
    ∧ (∀ s p, readReg s p 15 = s.pc + 8 ∧ readUserReg s 15 = s.pc + 8)

/-- R222 with the table of R221: ConditionPassed by bits 3:1 of the condition, inverted by bit 0. The table is the spec's own
from general knowledge (G2), so the model takes it as PRESUMED (log 30). That executing a word with condition 1111 is
refused is the spec's decision D7 in R182 and R224 (log 11). Words with another value in a reserved "should be" field
(R165, R181, decision D8, log 11 and 36) are refused by name when executed, and with a condition that fails only advance the
PC (R223) and the model's IMB record (log 9). -/
def Obligations.ConditionPassed : Prop :=
  (∀ (c : Cond) (p : Cpsr),
      let base := match (c.code.extractLsb' 1 3).toNat with
        | 0 => p.z
        | 1 => p.c
        | 2 => p.n
        | 3 => p.v
        | 4 => p.c && !p.z
        | 5 => p.n == p.v
        | 6 => !p.z && p.n == p.v
        | _ => true
      conditionPassed c p = (base != c.code.getLsbD 0))
    ∧ (∀ w : Word, field w 28 4 = 0b1111 → decode w = .reservedCondition)
    ∧ (∀ s, execDecoded .reservedCondition s = .refused .reservedCondition)
    ∧ ∀ (c : Cond) (s : State), s.pc ∉ s.imbOwed →
      (conditionPassed c s.cpsr = true →
        execDecoded (.reserved c .psrTransfer) s = .refused .reservedPsrField
        ∧ execDecoded (.reserved c .swap) s = .refused .reservedSwapField
        ∧ execDecoded (.reserved c .halfword) s = .refused .reservedHalfwordField)
      ∧ (conditionPassed c s.cpsr = false → Fits s → ∀ why,
        execDecoded (.reserved c why) s = .next (expireImb s { s with pc := s.pc + 4, nextFetch := .sequential }))

/-- R223: an instruction whose condition is false only moves the PC on by 4, whatever its operands, to a sequential fetch
(R103). R82: in 26-bit code that does not go past 0x03FFFFFC: there the advance is refused, and no instruction at all is
followed sequentially (U30; that the refusal comes at the instruction at 0x03FFFFFC, and that the mode it leaves decides,
are the model's choices, log 33). -/
def Obligations.FailedConditionOnlyAdvances : Prop :=
  (∀ (i : Instr) (s : State), conditionPassed i.cond s.cpsr = false →
      (Fits s → exec i s = .next { s with pc := s.pc + 4, nextFetch := .sequential })
      ∧ (¬ Fits s → exec i s = .refused .sequentialWrap26))
    ∧ ∀ (i : Instr) (s t : State), exec i s = .next t → t.nextFetch = .sequential →
      t.pc = s.pc + 4 ∧ ¬ (is26 t.cpsr.mode = true ∧ s.pc = 0x03FFFFFC)

/-! ### Data processing -/

/-- R269 to R274: SUB, RSB, ADD, ADC, SBC and RSC into a register, in the three operand forms: the sum or difference, with
S the flags of the arithmetic class, nothing else. The forms with Rd = 15 are in `AluJump`, `AluReturn` and
`PsrForms26`. -/
def Obligations.ArithmeticResult : Prop :=
  AluWrites .sub ∧ AluWrites .rsb ∧ AluWrites .add ∧ AluWrites .adc ∧ AluWrites .sbc ∧ AluWrites .rsc

/-- R267, R268, R279 to R282: AND, EOR, ORR, MOV, BIC and MVN into a register, in the three operand forms: the bitwise
result, with S the flags of the logical class, nothing else; MOV and MVN do not look at Rn. -/
def Obligations.LogicalResult : Prop :=
  AluWrites .and ∧ AluWrites .eor ∧ AluWrites .orr ∧ AluWrites .mov ∧ AluWrites .bic ∧ AluWrites .mvn

/-- R275 to R278: TST, TEQ, CMP and CMN set the flags of AND, EOR, SUB and ADD and write no register; Rd is ignored unless
it is 1111 (`PsrForms26`). -/
def Obligations.TestFlags : Prop :=
  ∀ op ∈ [AluOp.tst, .teq, .cmp, .cmn], ∀ (c : Cond) (rn rd : RegNo) (o : Op2) (s : State),
    conditionPassed c s.cpsr = true → rd ≠ 15 → Readable s op rn o → Fits s →
      ∃ t, exec (dp op c true rn rd o) s = .next t ∧ FlagsSet s t op (readReg s .n rn) (op2Value s o)
        ∧ RegsKeptBut s t [] ∧ PlainFrame s t

/-- R256: with Rd = 15 and S = 0 the result goes to the PC in every mode, and the CPSR is unaffected. -/
def Obligations.AluJump : Prop :=
  ∀ op ∈ [AluOp.and, .eor, .sub, .rsb, .add, .adc, .sbc, .rsc, .orr, .mov, .bic, .mvn],
    ∀ (c : Cond) (rn : RegNo) (o : Op2) (s : State), conditionPassed c s.cpsr = true → Readable s op rn o →
      ∃ t, exec (dp op c false rn 15 o) s = .next t
        ∧ t.pc = pcAfter s.cpsr.mode (aluValue op (readReg s .n rn) (op2Value s o).value s.cpsr.c)
        ∧ t.cpsr = s.cpsr ∧ RegsKeptBut s t [] ∧ JumpFrame s t

/-- R257: with Rd = 15 and S = 1 in a 32-bit mode the SPSR becomes the CPSR and the result, computed with the old CPSR, the
PC; in User and System mode, with an invalid mode in the SPSR (R48), and into a 26-bit mode from an instruction above
0x03FFFFFF (R82; that its own address is what counts is the model's reading, log 40), it is refused. -/
def Obligations.AluReturn : Prop :=
  ∀ op ∈ [AluOp.and, .eor, .sub, .rsb, .add, .adc, .sbc, .rsc, .orr, .mov, .bic, .mvn],
    ∀ (c : Cond) (rn : RegNo) (o : Op2) (s : State), conditionPassed c s.cpsr = true → Readable s op rn o →
      is26 s.cpsr.mode = false →
        (noSpsr s.cpsr.mode → exec (dp op c true rn 15 o) s = .refused .returnWithoutSpsr)
        ∧ ∀ p, getSpsr s (modeBank s.cpsr.mode) = some p →
          (∀ q, CpsrOf p q →
            ((is26 q.mode = true → s.pc.toNat ≤ 0x03FFFFFF) →
              ∃ t, exec (dp op c true rn 15 o) s = .next t ∧ t.cpsr = q
                ∧ t.pc = pcAfter q.mode (aluValue op (readReg s .n rn) (op2Value s o).value s.cpsr.c)
                ∧ RegsKeptBut s t [] ∧ JumpFrame s t)
            ∧ (is26 q.mode = true → 0x03FFFFFF < s.pc.toNat →
              exec (dp op c true rn 15 o) s = .refused .enter26Outside))
          ∧ ((∀ q, ¬ CpsrOf p q) → exec (dp op c true rn 15 o) s = .refused .invalidMode)

/-- R284 and R285: in a 26-bit mode a test with Rd = 1111, and any other operation with Rd = 15 and S = 1, copy bits of the
result into the CPSR in place of the flags; the second kind writes the PC too. -/
def Obligations.PsrForms26 : Prop :=
  ∀ (op : AluOp) (c : Cond) (rn : RegNo) (o : Op2) (s : State),
    conditionPassed c s.cpsr = true → Readable s op rn o → is26 s.cpsr.mode = true →
      let v := aluValue op (readReg s .n rn) (op2Value s o).value s.cpsr.c
      (op ∈ [AluOp.tst, .teq, .cmp, .cmn] → Fits s →
        ∃ t, exec (dp op c true rn 15 o) s = .next t ∧ Psr26Written s t v ∧ RegsKeptBut s t [] ∧ PlainFrame s t)
      ∧ (op ∉ [AluOp.tst, .teq, .cmp, .cmn] →
        ∃ t, exec (dp op c true rn 15 o) s = .next t ∧ Psr26Written s t v ∧ t.pc = pcAfter s.cpsr.mode v
          ∧ RegsKeptBut s t [] ∧ JumpFrame s t)

/-- R258 and R283: a register-controlled shift with R15 among the registers read, and a test with Rd = 1111 in a 32-bit
mode, are refused. That a test with Rd = 1111 is refused in a 32-bit mode is the spec's decision D8 (log 36). -/
def Obligations.AluRefused : Prop :=
  ∀ (op : AluOp) (c : Cond) (sb : Bool) (rn rd : RegNo) (s : State), conditionPassed c s.cpsr = true →
    (∀ rs ty rm, (rs = 15 ∨ rm = 15 ∨ (readsRn op ∧ rn = 15)) →
      exec (dp op c sb rn rd (.shiftReg rs ty rm)) s = .refused .registerShiftUsesR15)
    ∧ (∀ o, Readable s op rn o → op ∈ [AluOp.tst, .teq, .cmp, .cmn] → is26 s.cpsr.mode = false →
      exec (dp op c sb rn 15 o) s = .refused .testPIn32BitMode)

/-- R260 to R264: the shifts by an amount in the instruction. -/
def Obligations.ShiftByImmediate : Prop :=
  ∀ (m : Word) (n : Nat) (c : Bool),
    shiftByImmediate .lsl m 0 c = ⟨m, c⟩
    ∧ shiftByImmediate .lsr m 0 c = ⟨0, m.getLsbD 31⟩
    ∧ shiftByImmediate .asr m 0 c = ⟨if m.getLsbD 31 then 0xFFFFFFFF else 0, m.getLsbD 31⟩
    ∧ (shiftByImmediate .ror m 0 c).value.toNat = c.toNat * 2 ^ 31 + m.toNat / 2
    ∧ (shiftByImmediate .ror m 0 c).carry = m.getLsbD 0
    ∧ (1 ≤ n → n ≤ 31 →
      (shiftByImmediate .lsl m n c).value.toNat = m.toNat * 2 ^ n % 2 ^ 32
      ∧ (shiftByImmediate .lsl m n c).carry = m.getLsbD (32 - n)
      ∧ (shiftByImmediate .lsr m n c).value.toNat = m.toNat / 2 ^ n
      ∧ (shiftByImmediate .lsr m n c).carry = m.getLsbD (n - 1)
      ∧ (shiftByImmediate .asr m n c).value.toInt = m.toInt / 2 ^ n
      ∧ (shiftByImmediate .asr m n c).carry = m.getLsbD (n - 1)
      ∧ RotatedRight (shiftByImmediate .ror m n c).value m n
      ∧ (shiftByImmediate .ror m n c).carry = m.getLsbD (n - 1))

/-- R265: the shifts by a register's bottom byte, and that the third operand form takes that byte. -/
def Obligations.ShiftByRegister : Prop :=
  ∀ (m : Word) (n : Nat) (c : Bool),
    (∀ ty, shiftByRegister ty m 0 c = ⟨m, c⟩)
    ∧ (1 ≤ n → n ≤ 31 → ∀ ty, shiftByRegister ty m n c = shiftByImmediate ty m n c)
    ∧ shiftByRegister .lsl m 32 c = ⟨0, m.getLsbD 0⟩
    ∧ shiftByRegister .lsr m 32 c = ⟨0, m.getLsbD 31⟩
    ∧ (33 ≤ n → shiftByRegister .lsl m n c = ⟨0, false⟩ ∧ shiftByRegister .lsr m n c = ⟨0, false⟩)
    ∧ (32 ≤ n →
      shiftByRegister .asr m n c = ⟨if m.getLsbD 31 then 0xFFFFFFFF else 0, m.getLsbD 31⟩)
    ∧ shiftByRegister .ror m 32 c = ⟨m, m.getLsbD 31⟩
    ∧ (33 ≤ n → shiftByRegister .ror m n c = shiftByRegister .ror m ((n - 1) % 32 + 1) c)
    ∧ ∀ (op : AluOp) (sb : Bool) (rn rd rs rm : RegNo) (ty : ShiftType) (s : State),
      Readable s op rn (.shiftReg rs ty rm) →
        aluShiftReg op sb rn rd rs ty rm s
          = dataProcessing op sb rn rd (shiftByRegister ty (readReg s .m rm) ((readReg s .s rs).toNat % 256) s.cpsr.c) s

/-- R266: the immediate operand and its carry-out. -/
def Obligations.ImmediateOperand : Prop :=
  ∀ (r : BitVec 4) (k : BitVec 8) (c : Bool),
    RotatedRight (immediateOperand r k c).value (BitVec.ofNat 32 k.toNat) (2 * r.toNat)
    ∧ (r = 0 → (immediateOperand r k c).carry = c)
    ∧ (r ≠ 0 → (immediateOperand r k c).carry = (immediateOperand r k c).value.getLsbD 31)

/-! ### Branches and status registers -/

/-- R241: B goes to its address plus 8 plus four times the signed offset, modulo 2^32, and changes nothing else. That the
addition wraps is the spec's decision D11 (log 33). -/
def Obligations.Branch : Prop :=
  ∀ (c : Cond) (offset : BitVec 24) (s : State), conditionPassed c s.cpsr = true →
    ∃ t, exec (.b c offset) s = .next t
      ∧ t.pc = pcAfter s.cpsr.mode (BitVec.ofInt 32 (s.pc.toNat + 8 + 4 * offset.toInt))
      ∧ t.cpsr = s.cpsr ∧ RegsKeptBut s t [] ∧ JumpFrame s t

/-- R242: BL does the same and writes R14 of the current bank: the address of the next instruction, of which a 26-bit mode
fixes bits 25:2 only. That the other bits are free there is the spec's decision D9, the model's choice of log 13; that the
addition wraps is D11 (log 33). -/
def Obligations.BranchWithLink : Prop :=
  ∀ (c : Cond) (offset : BitVec 24) (s : State), conditionPassed c s.cpsr = true →
    ∃ t, exec (.bl c offset) s = .next t
      ∧ t.pc = pcAfter s.cpsr.mode (BitVec.ofInt 32 (s.pc.toNat + 8 + 4 * offset.toInt))
      ∧ t.cpsr = s.cpsr ∧ RegsKeptBut s t [reg s 14] ∧ JumpFrame s t
      ∧ ∃ v, Holds s t 14 v ∧ (is26 s.cpsr.mode = false → v = s.pc + 4)
        ∧ v.extractLsb' 2 24 = (s.pc + 4).extractLsb' 2 24

/-- R301 and R302: MRS copies the defined bits of the CPSR, or of the SPSR of the current mode, into Rd; Rd = 15 and a mode
without an SPSR are refused. That I is bit 7 and F bit 6 is the spec's own from general knowledge (G1), PRESUMED (log 30).
-/
def Obligations.MoveFromPsr : Prop :=
  ∀ (c : Cond) (rd : RegNo) (s : State), conditionPassed c s.cpsr = true →
    (rd = 15 → exec (.mrsCpsr c rd) s = .refused .psrTransferUsesR15
      ∧ exec (.mrsSpsr c rd) s = .refused .psrTransferUsesR15)
    ∧ (rd ≠ 15 → noSpsr s.cpsr.mode → exec (.mrsSpsr c rd) s = .refused .spsrAbsent)
    ∧ (rd ≠ 15 → Fits s →
      (∃ t v, exec (.mrsCpsr c rd) s = .next t ∧ Holds s t rd v
        ∧ PsrBits v ⟨s.cpsr.n, s.cpsr.z, s.cpsr.c, s.cpsr.v, s.cpsr.i, s.cpsr.f, modeBits s.cpsr.mode⟩
        ∧ RegsKeptBut s t [reg s rd] ∧ t.cpsr = s.cpsr ∧ PlainFrame s t)
      ∧ ∀ p, getSpsr s (modeBank s.cpsr.mode) = some p →
        ∃ t v, exec (.mrsSpsr c rd) s = .next t ∧ Holds s t rd v ∧ PsrBits v p
          ∧ RegsKeptBut s t [reg s rd] ∧ t.cpsr = s.cpsr ∧ PlainFrame s t)

/-- R304: MSR to the CPSR. With f = 1 it writes N, Z, C, V; without c = 1, and in User mode whatever the mask, I, F and the
mode stay. In a privileged mode with c = 1 they come from the word; an invalid mode number is refused. A change between a
26-bit and a 32-bit mode owes an IMB at the next address unless an IMB has just returned here (R129, as the model reads it,
log 9), and a 26-bit mode is not entered above 0x03FFFFFF (R82). R15 as the source is refused. At 0x03FFFFFC it is the mode
entered that decides whether the next word follows, the model's choice of log 33. That I is bit 7 and F bit 6 is the spec's
own from general knowledge (G1), PRESUMED (log 30). -/
def Obligations.MoveToCpsr : Prop :=
  ∀ (c : Cond) (mask : FieldMask) (src : MsrSource) (s : State), conditionPassed c s.cpsr = true →
    (msrWord s src = none → exec (msrCpsr c mask src) s = .refused .psrTransferUsesR15)
    ∧ ∀ v, msrWord s src = some v →
      ((mask.control = false ∨ isPrivileged s.cpsr.mode = false) → Fits s →
        ∃ t, exec (msrCpsr c mask src) s = .next t ∧ (mask.flags = true → FlagsFrom s t v)
          ∧ (mask.flags = false → t.cpsr = s.cpsr) ∧ RegsKeptBut s t [] ∧ PlainFrame s t)
      ∧ (mask.control = true → isPrivileged s.cpsr.mode = true →
        ((∀ m, modeBits m ≠ v.extractLsb' 0 5) → exec (msrCpsr c mask src) s = .refused .invalidMode)
        ∧ ∀ m, modeBits m = v.extractLsb' 0 5 →
          let changes := is26 m != is26 s.cpsr.mode
          (changes = true → is26 m = true → 0x03FFFFFF < s.pc.toNat →
            exec (msrCpsr c mask src) s = .refused .enter26Outside)
          ∧ ((changes = true → is26 m = true → s.pc.toNat ≤ 0x03FFFFFF) → ¬ (is26 m = true ∧ s.pc = 0x03FFFFFC) →
            ∃ t, exec (msrCpsr c mask src) s = .next t
              ∧ t.cpsr.mode = m ∧ t.cpsr.i = v.getLsbD 7 ∧ t.cpsr.f = v.getLsbD 6
              ∧ (mask.flags = true → t.cpsr.n = v.getLsbD 31 ∧ t.cpsr.z = v.getLsbD 30 ∧ t.cpsr.c = v.getLsbD 29
                  ∧ t.cpsr.v = v.getLsbD 28)
              ∧ (mask.flags = false → t.cpsr.n = s.cpsr.n ∧ t.cpsr.z = s.cpsr.z ∧ t.cpsr.c = s.cpsr.c
                  ∧ t.cpsr.v = s.cpsr.v)
              ∧ t.imbOwed = (if changes = true ∧ s.imbReturn ≠ some s.pc then (s.pc + 4) :: s.imbOwed else s.imbOwed)
              ∧ RegsKeptBut s t [] ∧ t.spsr = s.spsr ∧ t.stale = s.stale ∧ MemKept s t ∧ InputsKept s t
              ∧ CoprocKept s t ∧ t.imbReturn = s.imbReturn ∧ t.hazardStep = s.hazardStep ∧ Advanced s t))

/-- R305: MSR writes the masked fields of the SPSR of the current mode and nothing else, with any mode number; R15 as the
source and a mode without an SPSR are refused. That I is bit 7 and F bit 6 is the spec's own from general knowledge (G1),
PRESUMED (log 30). -/
def Obligations.MoveToSpsr : Prop :=
  ∀ (c : Cond) (mask : FieldMask) (src : MsrSource) (s : State), conditionPassed c s.cpsr = true →
    (msrWord s src = none → exec (msrSpsr c mask src) s = .refused .psrTransferUsesR15)
    ∧ ∀ v, msrWord s src = some v →
      (noSpsr s.cpsr.mode → exec (msrSpsr c mask src) s = .refused .spsrAbsent)
      ∧ ∀ p, getSpsr s (modeBank s.cpsr.mode) = some p → Fits s →
        ∃ t q, exec (msrSpsr c mask src) s = .next t ∧ getSpsr t (modeBank s.cpsr.mode) = some q
          ∧ (mask.flags = true → q.n = v.getLsbD 31 ∧ q.z = v.getLsbD 30 ∧ q.c = v.getLsbD 29 ∧ q.v = v.getLsbD 28)
          ∧ (mask.flags = false → q.n = p.n ∧ q.z = p.z ∧ q.c = p.c ∧ q.v = p.v)
          ∧ (mask.control = true → q.i = v.getLsbD 7 ∧ q.f = v.getLsbD 6 ∧ q.m = v.extractLsb' 0 5)
          ∧ (mask.control = false → q.i = p.i ∧ q.f = p.f ∧ q.m = p.m)
          ∧ (∀ b, b ≠ modeBank s.cpsr.mode → getSpsr t b = getSpsr s b)
          ∧ RegsKeptBut s t [] ∧ t.cpsr = s.cpsr ∧ t.stale = s.stale ∧ MemKept s t ∧ RestKept s t
          ∧ Advanced s t

/-! ### Multiplies -/

/-- R321 to R324: MUL and MLA: the product, or product plus Rn, modulo 2^32; with S N and Z of it, C unstated, V kept; Rd =
Rm and R15 are refused, except in the Rn field of MUL, which is not looked at. -/
def Obligations.Multiply : Prop :=
  ∀ (c : Cond) (sb acc : Bool) (rd rn rs rm : RegNo) (s : State), conditionPassed c s.cpsr = true →
    let i := if acc then Instr.mla c sb rd rn rs rm else .mul c sb rd rn rs rm
    let v := ((readReg s .m rm).toNat * (readReg s .s rs).toNat + if acc then (readReg s .n rn).toNat else 0) % 2 ^ 32
    ((rd = rm ∨ rd = 15 ∨ rm = 15 ∨ rs = 15 ∨ (acc = true ∧ rn = 15)) → exec i s = .refused .multiplyOperands)
    ∧ (rd ≠ rm → rd ≠ 15 → rm ≠ 15 → rs ≠ 15 → (acc = true → rn ≠ 15) → Fits s →
      ∃ t, exec i s = .next t ∧ Holds s t rd (BitVec.ofNat 32 v) ∧ RegsKeptBut s t [reg s rd]
        ∧ (sb = true → (t.cpsr.n = true ↔ 2 ^ 31 ≤ v) ∧ (t.cpsr.z = true ↔ v = 0) ∧ t.cpsr.v = s.cpsr.v
            ∧ t.cpsr.i = s.cpsr.i ∧ t.cpsr.f = s.cpsr.f ∧ t.cpsr.mode = s.cpsr.mode)
        ∧ (sb = false → t.cpsr = s.cpsr) ∧ PlainFrame s t)

/-- R327 to R329: the long multiplies: the 64-bit product, signed or unsigned, plus RdHi:RdLo when accumulating, modulo
2^64; with S N and Z of the 64 bits, C and V unstated; R15 and equal RdHi, RdLo, Rm are refused. -/
def Obligations.MultiplyLong : Prop :=
  ∀ (c : Cond) (signed acc sb : Bool) (hi lo rs rm : RegNo) (s : State), conditionPassed c s.cpsr = true →
    let i : Instr := match signed, acc with
      | false, false => .umull c sb hi lo rs rm
      | false, true => .umlal c sb hi lo rs rm
      | true, false => .smull c sb hi lo rs rm
      | true, true => .smlal c sb hi lo rs rm
    let p : Int := if signed then (readReg s .m rm).toInt * (readReg s .s rs).toInt
      else (readReg s .m rm).toNat * (readReg s .s rs).toNat
    let a : Nat := if acc then (readReg s .n hi).toNat * 2 ^ 32 + (readReg s .d lo).toNat else 0
    let v := ((p + a) % 2 ^ 64).toNat
    ((hi = 15 ∨ lo = 15 ∨ rs = 15 ∨ rm = 15 ∨ hi = lo ∨ hi = rm ∨ lo = rm) →
      exec i s = .refused .longMultiplyOperands)
    ∧ (hi ≠ 15 → lo ≠ 15 → rs ≠ 15 → rm ≠ 15 → hi ≠ lo → hi ≠ rm → lo ≠ rm → Fits s →
      ∃ t, exec i s = .next t ∧ Holds s t lo (BitVec.ofNat 32 (v % 2 ^ 32)) ∧ Holds s t hi (BitVec.ofNat 32 (v / 2 ^ 32))
        ∧ RegsKeptBut s t [reg s lo, reg s hi]
        ∧ (sb = true → (t.cpsr.n = true ↔ 2 ^ 63 ≤ v) ∧ (t.cpsr.z = true ↔ v = 0)
            ∧ t.cpsr.i = s.cpsr.i ∧ t.cpsr.f = s.cpsr.f ∧ t.cpsr.mode = s.cpsr.mode)
        ∧ (sb = false → t.cpsr = s.cpsr) ∧ PlainFrame s t)

/-! ### Single, halfword and signed transfers -/

/-- R343: LDR, LDRT among it (R347): the word that contains the address, rotated so that the addressed byte comes into
place, goes to Rd after the write-back; Rd = 15 is a jump (R350); an abort leaves everything as it was (R354). The address
saved from a 26-bit mode is R540's as the model reads it (log 35). -/
def Obligations.LoadWord : Prop :=
  ∀ (c : Cond) (up : Bool) (rn rd : RegNo) (ix : Index) (o : Offset) (s : State),
    conditionPassed c s.cpsr = true → SingleAllowed s .ldr up rn rd ix o →
      let i := single .ldr c up rn rd ix o
      let a := singleAddress s up rn ix o
      (requestAborts s .load (accessPrivileged s ix) a = true → ∃ t, exec i s = .next t ∧ DataAborted s t)
      ∧ (requestAborts s .load (accessPrivileged s ix) a = false → rd ≠ 15 → Fits s →
        ∃ t v, exec i s = .next t ∧ Holds s t rd v ∧ RotatedRight v (wordAt s a) (8 * (a.toNat % 4))
          ∧ (writesBase ix = true → Holds s t rn (singleBase s up rn o))
          ∧ RegsKeptBut s t (loadTargets s (writesBase ix) rn rd) ∧ t.cpsr = s.cpsr ∧ PlainFrame s t)
      ∧ (requestAborts s .load (accessPrivileged s ix) a = false → rd = 15 →
        ∃ t, exec i s = .next t ∧ t.pc = pcAfter s.cpsr.mode (wordAt s a)
          ∧ (writesBase ix = true → Holds s t rn (singleBase s up rn o))
          ∧ RegsKeptBut s t (baseTarget s (writesBase ix) rn) ∧ t.cpsr = s.cpsr ∧ JumpFrame s t)

/-- R344: LDRB and LDRBT: the byte at the address, zero-extended. The address saved from a 26-bit mode is R540's as the
model reads it (log 35). -/
def Obligations.LoadByte : Prop :=
  ∀ (c : Cond) (up : Bool) (rn rd : RegNo) (ix : Index) (o : Offset) (s : State),
    conditionPassed c s.cpsr = true → SingleAllowed s .ldrb up rn rd ix o →
      let i := single .ldrb c up rn rd ix o
      let a := singleAddress s up rn ix o
      (requestAborts s .loadB (accessPrivileged s ix) a = true → ∃ t, exec i s = .next t ∧ DataAborted s t)
      ∧ (requestAborts s .loadB (accessPrivileged s ix) a = false → Fits s →
        ∃ t v, exec i s = .next t ∧ Holds s t rd v ∧ v.toNat = (byteAt s a).toNat
          ∧ (writesBase ix = true → Holds s t rn (singleBase s up rn o))
          ∧ RegsKeptBut s t (loadTargets s (writesBase ix) rn rd) ∧ t.cpsr = s.cpsr ∧ PlainFrame s t)

/-- R345: STR and STRT: the word that contains the address becomes Rd, unrotated; no other byte changes. What is stored when
Rd is a base that is written back is unstated (R355). That a word store at an unaligned address goes to the word that
contains it is the spec's decision D5 (R93), the model's choice of log 20; that a store of the written-back base goes on
with an unstated value is its decision D24 (log 27). The address saved from a 26-bit mode is R540's as the model reads it
(log 35). -/
def Obligations.StoreWord : Prop :=
  ∀ (c : Cond) (up : Bool) (rn rd : RegNo) (ix : Index) (o : Offset) (s : State),
    conditionPassed c s.cpsr = true → SingleAllowed s .str up rn rd ix o →
      let i := single .str c up rn rd ix o
      let a := singleAddress s up rn ix o
      (requestAborts s .store (accessPrivileged s ix) a = true → ∃ t, exec i s = .next t ∧ DataAborted s t)
      ∧ (requestAborts s .store (accessPrivileged s ix) a = false → Fits s →
        ∃ t, exec i s = .next t ∧ (¬ (writesBase ix = true ∧ rd = rn) → wordAt t a = readReg s .d rd)
          ∧ MemKeptOutside s t (wordBase a) 4 ∧ StoreFrame s t (writesBase ix) rn (singleBase s up rn o) a)

/-- R346: STRB and STRBT: the byte at the address becomes the low byte of Rd; no other byte changes. That a store of the
written-back base goes on with an unstated value is the spec's decision D24 (R355), the model's choice of log 27. The
address saved from a 26-bit mode is R540's as the model reads it (log 35). -/
def Obligations.StoreByte : Prop :=
  ∀ (c : Cond) (up : Bool) (rn rd : RegNo) (ix : Index) (o : Offset) (s : State),
    conditionPassed c s.cpsr = true → SingleAllowed s .strb up rn rd ix o →
      let i := single .strb c up rn rd ix o
      let a := singleAddress s up rn ix o
      (requestAborts s .storeB (accessPrivileged s ix) a = true → ∃ t, exec i s = .next t ∧ DataAborted s t)
      ∧ (requestAborts s .storeB (accessPrivileged s ix) a = false → Fits s →
        ∃ t, exec i s = .next t
          ∧ (¬ (writesBase ix = true ∧ rd = rn) → byteAt t a = (readReg s .d rd).extractLsb' 0 8)
          ∧ MemKeptOutside s t a 1 ∧ StoreFrame s t (writesBase ix) rn (singleBase s up rn o) a)

/-- R373 to R375: LDRH, LDRSB and LDRSH: the halfword or byte, zero- or sign-extended; a halfword from an odd address is
free, and everything else is done as usual (R379). That such a load stays defined but for the value is the spec's decision
D26, the model's choice of log 28. The address saved from a 26-bit mode is R540's as the model reads it (log 35). -/
def Obligations.LoadHalfOrSigned : Prop :=
  ∀ (k : HalfKind) (c : Cond) (up : Bool) (rn rd : RegNo) (pre : Option Bool) (o : HalfOffset) (s : State),
    k ≠ .strh → conditionPassed c s.cpsr = true → HalfAllowed s k up rn rd pre o →
      let i := half k c up rn rd pre o
      let a := halfAddress s up rn pre o
      (requestAborts s (halfRequest k) (isPrivileged s.cpsr.mode) a = true →
        ∃ t, exec i s = .next t ∧ DataAborted s t)
      ∧ (requestAborts s (halfRequest k) (isPrivileged s.cpsr.mode) a = false → Fits s →
        ∃ t v, exec i s = .next t ∧ Holds s t rd v ∧ HalfLoaded s k a v
          ∧ (halfWritesBase pre = true → Holds s t rn (halfBase s up rn o))
          ∧ RegsKeptBut s t (loadTargets s (halfWritesBase pre) rn rd) ∧ t.cpsr = s.cpsr ∧ PlainFrame s t)

/-- R376: STRH: the halfword at an even address becomes the low half of Rd; no other byte changes. That a store of the
written-back base goes on with an unstated value is the spec's decision D24, the model's choice of log 27. The address saved
from a 26-bit mode is R540's as the model reads it (log 35). -/
def Obligations.StoreHalf : Prop :=
  ∀ (c : Cond) (up : Bool) (rn rd : RegNo) (pre : Option Bool) (o : HalfOffset) (s : State),
    conditionPassed c s.cpsr = true → HalfAllowed s .strh up rn rd pre o →
      let i := half .strh c up rn rd pre o
      let a := halfAddress s up rn pre o
      (requestAborts s .storeH (isPrivileged s.cpsr.mode) a = true → ∃ t, exec i s = .next t ∧ DataAborted s t)
      ∧ (requestAborts s .storeH (isPrivileged s.cpsr.mode) a = false → Fits s →
        ∃ t, exec i s = .next t
          ∧ (¬ (halfWritesBase pre = true ∧ rd = rn) → halfAt t a = (readReg s .d rd).extractLsb' 0 16)
          ∧ MemKeptOutside s t a 2 ∧ StoreFrame s t (halfWritesBase pre) rn (halfBase s up rn o) a)

/-- R348, R349, R352, R353, R378 and R380: every use these rules forbid is refused by name, whatever the operands. -/
def Obligations.TransferRefused : Prop :=
  (∀ (k : Single) (c : Cond) (up : Bool) (rn rd : RegNo) (ix : Index) (o : Offset) (s : State),
      conditionPassed c s.cpsr = true → SingleForbidden s k up rn rd ix o →
        ∃ r ∈ [Refusal.writeBackToR15, .byteTransferOfR15, .loadWriteBackToDestination, .misalignedPcTransfer,
            .offsetRegisterR15, .postIndexBaseIsOffset, .r15ReadIn26BitMode],
          exec (single k c up rn rd ix o) s = .refused r)
    ∧ ∀ (k : HalfKind) (c : Cond) (up : Bool) (rn rd : RegNo) (pre : Option Bool) (o : HalfOffset) (s : State),
      conditionPassed c s.cpsr = true → HalfForbidden s k up rn rd pre o →
        ∃ r ∈ [Refusal.writeBackToR15, .halfwordTransferOfR15, .loadWriteBackToDestination, .misalignedHalfwordStore,
            .offsetRegisterR15, .postIndexBaseIsOffset, .r15ReadIn26BitMode],
          exec (half k c up rn rd pre o) s = .refused r

/-! ### Block transfers -/

/-- R342 and R372: the base moved up or down by the offset modulo 2^32; the address is the moved base when pre-indexed, the
base when post-indexed. R391, R392 and R394: the list in ascending order, the first address and the write-back of the four
modes; and the stack pairing of R393: what a decrementing mode left is the base from which the matching incrementing mode
finds the same words and the old base. The rows of the two decrementing modes are the spec's own from general knowledge
(G10), PRESUMED (log 30). -/
def Obligations.TransferAddresses : Prop :=
  (∀ (pre up : Bool) (base off : Word),
      (indexed up base off).toNat
          = (if up then base.toNat + off.toNat else base.toNat + (2 ^ 32 - off.toNat)) % 2 ^ 32
        ∧ transferAddress pre up base off = (if pre then indexed up base off else base))
    ∧ (∀ list : BitVec 16, (registerList list).Pairwise (fun a b => a.toNat < b.toNat)
      ∧ ∀ i : RegNo, i ∈ registerList list ↔ list.getLsbD i.toNat = true)
    ∧ ∀ (base : Word) (n : Nat), n ≤ 16 →
      blockStart false true base n = base ∧ blockStart true true base n = base + 4
      ∧ blockStart false false base n = base - BitVec.ofNat 32 (4 * n) + 4
      ∧ blockStart true false base n = base - BitVec.ofNat 32 (4 * n)
      ∧ blockWriteBack true base n = base + BitVec.ofNat 32 (4 * n)
      ∧ blockWriteBack false base n = base - BitVec.ofNat 32 (4 * n)
      ∧ (∀ pre, blockStart (!pre) true (blockWriteBack false base n) n = blockStart pre false base n)
      ∧ blockWriteBack true (blockWriteBack false base n) n = base

/-- R396: LDM with S = 0: write-back, then every register of the list from its word; R15 in the list is a jump. That words
at an unaligned base are the words that contain their addresses is the spec's decision D5 (R395), the model's choice of log
20; the decrementing modes are G10 (log 30). -/
def Obligations.LoadMultiple : Prop :=
  ∀ (c : Cond) (pre up wb : Bool) (rn : RegNo) (list : BitVec 16) (s : State),
    conditionPassed c s.cpsr = true → rn ≠ 15 → list ≠ 0 → ¬ (wb = true ∧ list.getLsbD rn.toNat = true) →
      (∀ k < (registerList list).length, ¬ ReadAborts s (firstOf s pre up rn list) (registerList list).length k) →
        (list.getLsbD 15 = false → Fits s) →
          ∃ t, exec (.ldm c pre up wb rn list) s = .next t
            ∧ Loaded (reg s) s t list (firstOf s pre up rn list)
            ∧ (wb = true → Holds s t rn (backOf s up rn list))
            ∧ UnlistedKept (reg s) s t list (baseTarget s wb rn) ∧ t.cpsr = s.cpsr
            ∧ t.pc = (if list.getLsbD 15 then pcAfter s.cpsr.mode (lastWord s list (firstOf s pre up rn list))
                else s.pc + 4)
            ∧ JumpFrame s t

/-- R401 and R408: LDM with S = 1 and R15 in the list: as LDM, in the bank of the old mode, and with R15 the CPSR is loaded
from the SPSR, or in a 26-bit mode from the word loaded for R15. Refused in User and System mode, for an invalid mode in the
SPSR, and into a 26-bit mode from an instruction above 0x03FFFFFF (R82; that its own address is what counts is the model's
reading, log 40). Unaligned bases are as decision D5 has them (R395, log 20), the decrementing modes as G10 (log 30). -/
def Obligations.LoadMultipleReturn : Prop :=
  ∀ (c : Cond) (pre up wb : Bool) (rn : RegNo) (list : BitVec 15) (s : State),
    conditionPassed c s.cpsr = true → rn ≠ 15 →
      let l : BitVec 16 := 1#1 ++ list
      let i := Instr.ldmPc c pre up wb rn list
      let loads (t : State) : Prop := Loaded (reg s) s t l (firstOf s pre up rn l)
        ∧ (wb = true → Holds s t rn (backOf s up rn l)) ∧ UnlistedKept (reg s) s t l (baseTarget s wb rn)
        ∧ JumpFrame s t
      (s.cpsr.mode = .usr ∨ s.cpsr.mode = .sys → exec i s = .refused .blockSBitWithoutSpsr)
      ∧ (¬ (wb = true ∧ list.getLsbD rn.toNat = true) →
        (∀ k < (registerList l).length, ¬ ReadAborts s (firstOf s pre up rn l) (registerList l).length k) →
          let v := lastWord s l (firstOf s pre up rn l)
          (is26 s.cpsr.mode = true →
            ∃ t, exec i s = .next t ∧ loads t ∧ Psr26Written s t v ∧ t.pc = pcAfter s.cpsr.mode v)
          ∧ (is26 s.cpsr.mode = false → ∀ p, getSpsr s (modeBank s.cpsr.mode) = some p →
            (∀ q, CpsrOf p q →
              ((is26 q.mode = true → s.pc.toNat ≤ 0x03FFFFFF) →
                ∃ t, exec i s = .next t ∧ loads t ∧ t.cpsr = q ∧ t.pc = pcAfter q.mode v)
              ∧ (is26 q.mode = true → 0x03FFFFFF < s.pc.toNat → exec i s = .refused .enter26Outside))
            ∧ ((∀ q, ¬ CpsrOf p q) → exec i s = .refused .invalidMode)))

/-- R403: LDM with S = 1 and R15 not in the list loads the User bank and changes neither the CPSR nor the other banks; the
next instruction is the one that must not read a banked register, which the model records in `hazardStep` (log 24). That the
hazard lasts that one instruction is decision D25. Unaligned bases are as decision D5 has them (R395, log 20), the
decrementing modes as G10 (log 30). -/
def Obligations.LoadMultipleUser : Prop :=
  ∀ (c : Cond) (pre up : Bool) (rn : RegNo) (list : BitVec 15) (s : State),
    conditionPassed c s.cpsr = true → rn ≠ 15 → list ≠ 0 → ¬ noSpsr s.cpsr.mode → Fits s →
      let l : BitVec 16 := 0#1 ++ list
      (∀ k < (registerList l).length, ¬ ReadAborts s (firstOf s pre up rn l) (registerList l).length k) →
        ∃ t, exec (.ldmUser c pre up false rn list) s = .next t
          ∧ Loaded (physReg .usr) s t l (firstOf s pre up rn l) ∧ UnlistedKept (physReg .usr) s t l []
          ∧ t.cpsr = s.cpsr ∧ Advanced s t ∧ t.spsr = s.spsr ∧ t.stale = s.stale ∧ MemKept s t ∧ InputsKept s t
          ∧ CoprocKept s t ∧ t.imbOwed = s.imbOwed ∧ t.imbReturn = s.imbReturn ∧ t.hazardStep = some (s.tick + 1)

/-- R397 and R399: STM with S = 0: every register of the list into its word, R15 as the instruction's address plus 8, the
base as it was unless it is written back and not the lowest; then the write-back. That words at an unaligned base go to the
words that contain their addresses is the spec's decision D5 (R395), and that the unstated word is free while all else goes
on is D20 (R399): the model's choices of log 20 and 27. The decrementing modes are G10 (log 30). -/
def Obligations.StoreMultiple : Prop :=
  ∀ (c : Cond) (pre up wb : Bool) (rn : RegNo) (list : BitVec 16) (s : State),
    conditionPassed c s.cpsr = true → rn ≠ 15 → list ≠ 0 → Fits s →
      (is26 s.cpsr.mode = true → list.getLsbD 15 = false) →
        (∀ k < (registerList list).length, ¬ WriteAborts s (firstOf s pre up rn list) (registerList list).length k) →
          ∃ t, exec (.stm c pre up wb rn list) s = .next t
            ∧ StoredWords s t list (firstOf s pre up rn list) (registerList list).length (stmWord s wb rn list)
            ∧ (wb = true → Holds s t rn (backOf s up rn list)) ∧ OnlyMemory s t (baseTarget s wb rn)
            ∧ Advanced s t

/-- R402: STM with S = 1 stores the User bank's registers, whatever the mode's own are; the address comes from the base of
the current bank, which is not written back. That words at an unaligned base go to the words that contain their addresses is
the spec's decision D5 (R395), the model's choice of log 20; the decrementing modes are G10 (log 30). -/
def Obligations.StoreMultipleUser : Prop :=
  ∀ (c : Cond) (pre up : Bool) (rn : RegNo) (list : BitVec 16) (s : State),
    conditionPassed c s.cpsr = true → rn ≠ 15 → list ≠ 0 → ¬ noSpsr s.cpsr.mode → Fits s →
      (is26 s.cpsr.mode = true → list.getLsbD 15 = false) →
        (∀ k < (registerList list).length, ¬ WriteAborts s (firstOf s pre up rn list) (registerList list).length k) →
          ∃ t, exec (.stmUser c pre up false rn list) s = .next t
            ∧ StoredWords s t list (firstOf s pre up rn list) (registerList list).length
              (fun i => some (readUserReg s i))
            ∧ OnlyMemory s t [] ∧ Advanced s t

/-- R399, R400, R402, R403, R404 and R407: the uses of the block transfers these rules forbid are refused by name. -/
def Obligations.BlockRefused : Prop :=
  ∀ (c : Cond) (pre up wb : Bool) (rn : RegNo) (list : BitVec 16) (short : BitVec 15) (s : State),
    conditionPassed c s.cpsr = true →
      (rn = 15 → ∀ i ∈ [Instr.ldm c pre up wb rn list, .stm c pre up wb rn list, .stmUser c pre up wb rn list,
          .ldmPc c pre up wb rn short, .ldmUser c pre up wb rn short], exec i s = .refused .blockBaseR15)
      ∧ (rn ≠ 15 → ∀ i ∈ [Instr.ldm c pre up wb rn 0, .stm c pre up wb rn 0, .stmUser c pre up wb rn 0,
          .ldmUser c pre up wb rn 0], exec i s = .refused .emptyRegisterList)
      ∧ (rn ≠ 15 → wb = true → list.getLsbD rn.toNat = true →
        exec (.ldm c pre up wb rn list) s = .refused .loadMultipleBaseInList)
      ∧ (rn ≠ 15 → wb = true → short.getLsbD rn.toNat = true → s.cpsr.mode ≠ .usr → s.cpsr.mode ≠ .sys →
        exec (.ldmPc c pre up wb rn short) s = .refused .loadMultipleBaseInList)
      ∧ (rn ≠ 15 → list ≠ 0 → noSpsr s.cpsr.mode →
        exec (.stmUser c pre up wb rn list) s = .refused .blockSBitWithoutSpsr)
      ∧ (rn ≠ 15 → short ≠ 0 → noSpsr s.cpsr.mode →
        exec (.ldmUser c pre up wb rn short) s = .refused .blockSBitWithoutSpsr)
      ∧ (rn ≠ 15 → list ≠ 0 → ¬ noSpsr s.cpsr.mode → wb = true →
        exec (.stmUser c pre up wb rn list) s = .refused .userBankWriteBack)
      ∧ (rn ≠ 15 → short ≠ 0 → ¬ noSpsr s.cpsr.mode → wb = true →
        exec (.ldmUser c pre up wb rn short) s = .refused .userBankWriteBack)

/-- R405: a Data Abort at transfer `j` of an LDM: no later register is loaded, the base, the CPSR and the PC keep their
values, each earlier register holds its old or its loaded value, and the Data Abort is taken. That each earlier register,
other than the base, has either value by itself is the spec's decision D21 (log 25, where the base is compared as a physical
register); that an aborted user-bank LDM leaves no banked-register hazard is the model's own choice, which R403, R405 and
R611 leave open (log 24). Unaligned bases are as decision D5 has them (R395, log 20), the decrementing modes as G10 (log
30). The address saved from a 26-bit mode is R540's as the model reads it (log 35). -/
def Obligations.LoadMultipleAborted : Prop :=
  ∀ (c : Cond) (pre up wb : Bool) (rn : RegNo) (list : BitVec 16) (short : BitVec 15) (s : State),
    conditionPassed c s.cpsr = true → rn ≠ 15 →
      let aborts (i : Instr) (phys : RegNo → Option PhysReg) (l : BitVec 16) : Prop :=
        ∀ j < (registerList l).length,
          ReadAborts s (firstOf s pre up rn l) (registerList l).length j →
          (∀ k < j, ¬ ReadAborts s (firstOf s pre up rn l) (registerList l).length k) →
            ∃ t u, exec i s = .next t ∧ DataAborted u t
              ∧ u.pc = s.pc ∧ u.cpsr = s.cpsr ∧ u.spsr = s.spsr ∧ u.stale = s.stale ∧ MemKept s u ∧ RestKept s u
              ∧ (∀ r, some r = reg s rn → getPhys u r = getPhys s r)
              ∧ (∀ k i r, k < j → (registerList l)[k]? = some i → phys i = some r →
                getPhys u r = getPhys s r ∨ getPhys u r = wordAt s (blockAt (firstOf s pre up rn l) k))
              ∧ ∀ r, (∀ k i, k < j → (registerList l)[k]? = some i → phys i ≠ some r) → getPhys u r = getPhys s r
      (list ≠ 0 → ¬ (wb = true ∧ list.getLsbD rn.toNat = true) →
        aborts (.ldm c pre up wb rn list) (reg s) list)
      ∧ (s.cpsr.mode ≠ .usr → s.cpsr.mode ≠ .sys → ¬ (wb = true ∧ short.getLsbD rn.toNat = true) →
        aborts (.ldmPc c pre up wb rn short) (reg s) (1#1 ++ short))
      ∧ (short ≠ 0 → ¬ noSpsr s.cpsr.mode →
        aborts (.ldmUser c pre up false rn short) (physReg .usr) (0#1 ++ short))

/-- R406: a Data Abort at transfer `j` of an STM: no register has changed, and the Data Abort is taken. That exactly the
stores before it are in memory is the spec's decision D22, the model's choice of log 26: the source leaves the details to
the memory system. Unaligned bases are as decision D5 has them (R395, log 20), the decrementing modes as G10 (log 30). The
address saved from a 26-bit mode is R540's as the model reads it (log 35). -/
def Obligations.StoreMultipleAborted : Prop :=
  ∀ (c : Cond) (pre up wb : Bool) (rn : RegNo) (list : BitVec 16) (s : State),
    conditionPassed c s.cpsr = true → rn ≠ 15 → list ≠ 0 → (is26 s.cpsr.mode = true → list.getLsbD 15 = false) →
      ∀ j < (registerList list).length,
        WriteAborts s (firstOf s pre up rn list) (registerList list).length j →
        (∀ k < j, ¬ WriteAborts s (firstOf s pre up rn list) (registerList list).length k) →
          (∃ t u, exec (.stm c pre up wb rn list) s = .next t ∧ DataAborted u t ∧ u.pc = s.pc ∧ OnlyMemory s u []
            ∧ StoredWords s u list (firstOf s pre up rn list) j (stmWord s wb rn list))
          ∧ (wb = false → ¬ noSpsr s.cpsr.mode →
            ∃ t u, exec (.stmUser c pre up false rn list) s = .next t ∧ DataAborted u t ∧ u.pc = s.pc
              ∧ OnlyMemory s u []
              ∧ StoredWords s u list (firstOf s pre up rn list) j (fun i => some (readUserReg s i)))

/-! ### Swaps, software interrupts, undefined and coprocessor instructions -/

/-- R422 to R425: SWP: Rd gets the word, rotated as LDR does, the word becomes Rm unrotated; SWPB: the same with the byte at
the address, zero-extended, and the low byte of Rm. An abort of the read or of the write leaves Rd and memory as they were;
R15 is refused. That the word SWP writes at an unaligned address goes to the word that contains it is the spec's decision
D5, the model's choice of log 20; the aborts are as log 38 reads R425. The address saved from a 26-bit mode is R540's as the
model reads it (log 35). -/
def Obligations.Swap : Prop :=
  ∀ (c : Cond) (rn rd rm : RegNo) (s : State), conditionPassed c s.cpsr = true →
    let a := readReg s .n rn
    let priv := isPrivileged s.cpsr.mode
    ((rn = 15 ∨ rd = 15 ∨ rm = 15) → exec (.swp c rn rd rm) s = .refused .swapUsesR15
      ∧ exec (.swpb c rn rd rm) s = .refused .swapUsesR15)
    ∧ (rn ≠ 15 → rd ≠ 15 → rm ≠ 15 →
      ((requestAborts s .loadX priv a = true ∨ requestAborts s .storeX priv a = true) →
        ∃ t, exec (.swp c rn rd rm) s = .next t ∧ DataAborted s t)
      ∧ ((requestAborts s .loadBX priv a = true ∨ requestAborts s .storeBX priv a = true) →
        ∃ t, exec (.swpb c rn rd rm) s = .next t ∧ DataAborted s t)
      ∧ (requestAborts s .loadX priv a = false → requestAborts s .storeX priv a = false → Fits s →
        ∃ t v, exec (.swp c rn rd rm) s = .next t ∧ Holds s t rd v ∧ RotatedRight v (wordAt s a) (8 * (a.toNat % 4))
          ∧ wordAt t a = readReg s .m rm ∧ MemKeptOutside s t (wordBase a) 4 ∧ StaleWith s t a
          ∧ OnlyMemory s t [reg s rd] ∧ Advanced s t)
      ∧ (requestAborts s .loadBX priv a = false → requestAborts s .storeBX priv a = false → Fits s →
        ∃ t v, exec (.swpb c rn rd rm) s = .next t ∧ Holds s t rd v ∧ v.toNat = (byteAt s a).toNat
          ∧ byteAt t a = (readReg s .m rm).extractLsb' 0 8 ∧ MemKeptOutside s t a 1 ∧ StaleWith s t a
          ∧ OnlyMemory s t [reg s rd] ∧ Advanced s t))

/-- R428, R430 and R431: SWI, IMB and IMBRange enter Supervisor mode at the SWI vector with the address of the next
instruction in R14_svc, in every mode, and empty the stale set; but for the model's two IMB records, of which
`BarrierNeeded` speaks, nothing else happens. The address saved from a 26-bit mode is R540's as the model reads it (log 35).
-/
def Obligations.SoftwareInterrupt : Prop :=
  ∀ (c : Cond) (comment : BitVec 24) (s : State), conditionPassed c s.cpsr = true →
    ∀ i ∈ [Instr.swi c comment, .imb c, .imbRange c],
      ∃ t u, exec i s = .next t ∧ Entered .svc .svc 0x08 (retAfter s 4) false s u ∧ CoprocKept s u
        ∧ t = { u with stale := [], imbOwed := t.imbOwed, imbReturn := t.imbReturn }

/-- R470 and R471: the undefined classes trap: class A always, classes B to E while the parameter TrapClassesBtoE is true;
with it false they are refused. The parameter, and the refusal with it false, are the spec's decision D31, the model's
choice of log 19. The address saved from a 26-bit mode is R540's as the model reads it (log 35). -/
def Obligations.UndefinedTrap : Prop :=
  ∀ (c : Cond) (bits : BitVec 28) (s : State), conditionPassed c s.cpsr = true →
    (∃ t, exec (.undefinedA c bits) s = .next t ∧ Trapped s t ∧ t.coproc = s.coproc)
    ∧ ∀ i ∈ undefinedBE c bits,
      (s.trapClassesBtoE = true → ∃ t, exec i s = .next t ∧ Trapped s t ∧ t.coproc = s.coproc)
      ∧ (s.trapClassesBtoE = false → exec i s = .refused .unallocatedTrapDisabled)

/-- R454, R455, R457, R460 and R463: a coprocessor instruction that is bounced takes the Undefined Instruction trap; for
CDP, LDC and STC that is the effect they have on ARM8, and a coprocessor that accepts one is refused. That they bounce while
no reply is left (`coproc` empty) is the spec's default of decision D15, the model's choice of log 17. The address saved
from a 26-bit mode is R540's as the model reads it (log 35). -/
def Obligations.CoprocessorOffer : Prop :=
  ∀ (i : Instr) (s : State), Offered i → conditionPassed i.cond s.cpsr = true →
    ((s.coproc = [] ∨ ∃ rest, s.coproc = ⟨some 0, .bounce⟩ :: rest) →
      ∃ t, exec i s = .next t ∧ Trapped s t ∧ t.coproc = s.coproc.tail)
    ∧ (Unsupported i → ∀ d rest, s.coproc = ⟨some 0, .accept d⟩ :: rest →
      exec i s = .refused .coprocessorAccepted)

/-- R452 and R461: a busy-wait cycle executes nothing: the instruction is still the next one, with every register, flag and
byte as it was, and one cycle fewer to wait; when the cycles never end there are as many as before. An interrupt taken at
the end of such a cycle abandons the instruction, whose own address plus 4 is saved. That a step of the model is one such
cycle, that a held instruction is not fetched again, and that an abandoned one is offered anew are the model's choices (log
39). The address saved from a 26-bit mode is R540's as the model reads it (log 35). -/
def Obligations.BusyWait : Prop :=
  (∀ (i : Instr) (s : State) (waits : Option Nat) (answer : CoprocAnswer) (rest : List CoprocReply), Offered i →
      conditionPassed i.cond s.cpsr = true → s.coproc = ⟨waits, answer⟩ :: rest → waits ≠ some 0 →
        ∃ t, exec i s = .next t ∧ t.pc = s.pc ∧ t.nextFetch = .held ∧ t.cpsr = s.cpsr ∧ t.spsr = s.spsr
          ∧ t.stale = s.stale ∧ RegsKeptBut s t [] ∧ MemKept s t ∧ InputsKept s t ∧ t.coprocLog = s.coprocLog
          ∧ t.controlLog = s.controlLog ∧ t.imbOwed = s.imbOwed ∧ t.imbReturn = s.imbReturn
          ∧ (waits = none → t.coproc = s.coproc) ∧ ∀ n, waits = some (n + 1) → t.coproc = ⟨some n, answer⟩ :: rest)
    ∧ ∀ (s : State) (l : Lines), s.nextFetch = .held →
      let t := sampleInterrupts l s
      ((l.fiq = true ∧ s.cpsr.f = false) → Entered .fiq .fiq 0x1C (retAfter s 4) true s t
        ∧ t.coproc = s.coproc.tail ∧ t.coprocLog = s.coprocLog ∧ t.controlLog = s.controlLog)
      ∧ (¬ (l.fiq = true ∧ s.cpsr.f = false) → (l.irq = true ∧ s.cpsr.i = false) →
        Entered .irq .irq 0x18 (retAfter s 4) false s t
        ∧ t.coproc = s.coproc.tail ∧ t.coprocLog = s.coprocLog ∧ t.controlLog = s.controlLog)

/-- R457 and R458: an accepted MRC puts the coprocessor's word into Rd, or with Rd = 15 its bits 31:28 into the flags and
nothing into the PC; accepted for a coprocessor that does not exist it is refused (R452, R464). `coprocLog` is the model's
record of what the coprocessors were shown (log 17). -/
def Obligations.MoveFromCoprocessor : Prop :=
  ∀ (c : Cond) (opc : BitVec 3) (crn rd : RegNo) (cp : BitVec 4) (info : BitVec 3) (crm : RegNo) (s : State)
    (d : Word) (rest : List CoprocReply),
    conditionPassed c s.cpsr = true → s.coproc = ⟨some 0, .accept d⟩ :: rest →
      let i := Instr.mrc c opc crn rd cp info crm
      (cp ∉ s.presentCps → exec i s = .refused .absentCoprocessorAccepted)
      ∧ (cp ∈ s.presentCps → Fits s →
        ∃ t, exec i s = .next t ∧ (rd ≠ 15 → Holds s t rd d ∧ t.cpsr = s.cpsr) ∧ (rd = 15 → FlagsFrom s t d)
          ∧ RegsKeptBut s t [reg s rd] ∧ t.spsr = s.spsr ∧ t.stale = s.stale ∧ MemKept s t ∧ InputsKept s t
          ∧ RecordsKept s t ∧ t.coproc = rest ∧ t.controlLog = s.controlLog
          ∧ t.coprocLog = ⟨(encode i).extractLsb' 0 26, isPrivileged s.cpsr.mode, none⟩ :: s.coprocLog
          ∧ Advanced s t)

/-- R459 and R460: an accepted MCR gives Rd to the coprocessor and to the memory system as AREQ_CONTROL and changes no
register or flag; Rd = 15 is refused, and so is one accepted for a coprocessor that does not exist (R452, R464). That
AREQ_CONTROL changes no byte and raises nothing is the spec's decision D32, the model's choice of log 32. The two logs are the
model's records of what the coprocessors and the memory system saw (log 17, 32). -/
def Obligations.MoveToCoprocessor : Prop :=
  ∀ (c : Cond) (opc : BitVec 3) (crn rd : RegNo) (cp : BitVec 4) (info : BitVec 3) (crm : RegNo) (s : State),
    conditionPassed c s.cpsr = true →
      let i := Instr.mcr c opc crn rd cp info crm
      (rd = 15 → exec i s = .refused .mcrFromR15)
      ∧ ∀ d rest, rd ≠ 15 → s.coproc = ⟨some 0, .accept d⟩ :: rest →
        (cp ∉ s.presentCps → exec i s = .refused .absentCoprocessorAccepted)
        ∧ (cp ∈ s.presentCps → Fits s → ∃ t, exec i s = .next t ∧ t.controlLog = readReg s .d rd :: s.controlLog ∧ t.coproc = rest
          ∧ t.coprocLog = ⟨(encode i).extractLsb' 0 26, isPrivileged s.cpsr.mode, some (readReg s .d rd)⟩
              :: s.coprocLog
          ∧ t.cpsr = s.cpsr ∧ RegsKeptBut s t [] ∧ t.spsr = s.spsr ∧ t.stale = s.stale ∧ MemKept s t
          ∧ InputsKept s t ∧ RecordsKept s t ∧ Advanced s t)

/-! ### Exceptions, interrupts, reset -/

/-- R506 with R540: what taking each exception saves, sets and keeps; of Reset, whose R14 and SPSR are not stated, the mode,
the two masks and the vector. That the address saved from a 26-bit mode is masked to 26 bits is R540 as the model reads it,
DEDUCED (log 35). The clause on Reset is R601 and R57. -/
def Obligations.ExceptionEntry : Prop :=
  ∀ (s : State) (ret : Word),
    let saved := if is26 s.cpsr.mode then ret &&& 0x03FFFFFF else ret
    Entered .und .und 0x04 saved false s (takeException .undefined ret s)
      ∧ Entered .svc .svc 0x08 saved false s (takeException .swi ret s)
      ∧ Entered .abt .abt 0x0C saved false s (takeException .prefetchAbort ret s)
      ∧ Entered .abt .abt 0x10 saved false s (takeException .dataAbort ret s)
      ∧ Entered .irq .irq 0x18 saved false s (takeException .irq ret s)
      ∧ Entered .fiq .fiq 0x1C saved true s (takeException .fiq ret s)
      ∧ (releaseReset s).cpsr.mode = .svc ∧ (releaseReset s).cpsr.i = true ∧ (releaseReset s).cpsr.f = true
      ∧ (releaseReset s).pc = 0

/-- R516 and step 2 of R225: when the fetch at the PC aborts, the Prefetch Abort is taken, and with no interrupt asserted
that is the whole step. That it is taken whatever the word is, before its condition and the stale set are looked at, is the
spec's decision D6, the model's choice of log 21. The address saved from a 26-bit mode is R540's as the model reads it (log
35). -/
def Obligations.PrefetchAbort : Prop :=
  ∀ s : State, s.inReset = false → fetchAborts s = true → currentLines s = ⟨false, false, false⟩ →
    ∃ t, step s = .next t ∧ getPhys t (.r14 .abt) = retAfter s 4 ∧ RegsKeptBut s t [some (.r14 .abt)]
      ∧ getSpsr t .abt = some (cpsrToPsr s.cpsr) ∧ (∀ b, b ≠ .abt → getSpsr t b = getSpsr s b)
      ∧ t.cpsr = { s.cpsr with i := true, mode := .abt } ∧ t.pc = 0x0C ∧ MemKept s t ∧ t.stale = s.stale

/-- R520 to R523: after an instruction that took the machine to `u`, an asserted and enabled FIQ is taken, else an asserted
and enabled IRQ, with the address of the next instruction plus 4; else nothing more happens. The enabling is that of the
CPSR the instruction left. The levels of the pins are an input (decision D13, log 14). The address saved from a 26-bit mode
is R540's as the model reads it (log 35). -/
def Obligations.InterruptSampling : Prop :=
  ∀ (s u : State) (l : Lines) (ls : List Lines), s.inReset = false → s.lines = l :: ls → l.reset = false →
    runInstruction s = .next u →
      ∃ t, step s = .next t ∧ t.lines = u.lines.tail ∧ t.tick = u.tick + 1 ∧
        let v := { t with lines := u.lines, tick := u.tick }
        ((l.fiq = true ∧ u.cpsr.f = false) → Entered .fiq .fiq 0x1C (retAfter u 4) true u v)
        ∧ (¬ (l.fiq = true ∧ u.cpsr.f = false) → (l.irq = true ∧ u.cpsr.i = false) →
          Entered .irq .irq 0x18 (retAfter u 4) false u v)
        ∧ (¬ (l.fiq = true ∧ u.cpsr.f = false) → ¬ (l.irq = true ∧ u.cpsr.i = false) → v = u)

/-- R531: an instruction that takes a Data Abort while FIQ is asserted and enabled ends at the FIQ vector, with the Data
Abort's own vector as the address to resume at and both entries' registers saved. That these are two complete entries back
to back, with R14_fiq = 0x14, is the spec's decision D23, which the model follows as DEDUCED (log 37). The address saved
from a 26-bit mode is R540's as the model reads it (log 35). -/
def Obligations.FiqAfterDataAbort : Prop :=
  ∀ (s u : State) (l : Lines) (ls : List Lines), s.inReset = false → s.lines = l :: ls → l.reset = false →
    l.fiq = true → s.cpsr.f = false → runInstruction s = .next u → DataAborted s u →
      ∃ t, step s = .next t ∧ t.pc = 0x1C ∧ t.cpsr = { s.cpsr with i := true, f := true, mode := .fiq }
        ∧ getPhys t (.r14 .fiq) = 0x14 ∧ getPhys t (.r14 .abt) = retAfter s 8
        ∧ getSpsr t .abt = some (cpsrToPsr s.cpsr)
        ∧ getSpsr t .fiq = some (cpsrToPsr { s.cpsr with i := true, mode := .abt })
        ∧ RegsKeptBut s t [some (.r14 .fiq), some (.r14 .abt)] ∧ MemKept s t

/-- R601 and R602: while `nReset` is LOW nothing executes; when it goes HIGH the machine is in Supervisor mode with both
interrupts disabled at address 0, the stale set empty and memory unchanged. R604: at the step in which it goes LOW each
byte of memory is as before the instruction or as after it, and a coprocessor instruction among them is abandoned: nothing
joins the records of what went out (R602). The values free or kept besides are the spec's decision D17 (log 15). -/
def Obligations.ResetSequence : Prop :=
  (∀ s, s.inReset = true → (currentLines s).reset = true →
      step s = .next { s with lines := s.lines.tail, tick := s.tick + 1 })
    ∧ (∀ s, s.inReset = true → (currentLines s).reset = false →
      ∃ t, step s = .next t ∧ t.pc = 0 ∧ t.cpsr.mode = .svc ∧ t.cpsr.i = true ∧ t.cpsr.f = true ∧ t.stale = []
        ∧ t.inReset = false ∧ t.nextFetch = .nonSequential ∧ t.imbOwed = [] ∧ t.hazardStep = none ∧ MemKept s t)
    ∧ ∀ s u, s.inReset = false → (currentLines s).reset = true → runInstruction s = .next u →
      ∃ t, step s = .next t ∧ t.inReset = true ∧ t.coprocLog = s.coprocLog ∧ t.controlLog = s.controlLog
        ∧ ∀ a, byteAt t a = byteAt s a ∨ byteAt t a = byteAt u a

/-! ### Memory -/

/-- R85, R86, R89, R91, R92 and R93: the bytes of a word and of a halfword in the two byte orders, for reads and for writes; a
write reaches no other byte. That a word write ignores bits 1:0 of its address is the spec's decision D5, the model's choice of
log 20. -/
def Obligations.ByteOrder : Prop :=
  ∀ (s : State) (a : Word),
    (∀ k < 4, (wordAt s a).extractLsb' (8 * (if s.bigend then 3 - k else k)) 8
      = byteAt s (wordBase a + BitVec.ofNat 32 k))
    ∧ (∀ k < 2, (halfAt s a).extractLsb' (8 * (if s.bigend then 1 - k else k)) 8 = byteAt s (a + BitVec.ofNat 32 k))
    ∧ (wordBase a).toNat = a.toNat / 4 * 4
    ∧ (∀ v, wordAt (setWord s a v) a = v ∧ MemKeptOutside s (setWord s a v) (wordBase a) 4)
    ∧ (∀ v, halfAt (setHalf s a v) a = v ∧ MemKeptOutside s (setHalf s a v) a 2)
    ∧ ∀ v, byteAt (setByte s a v) a = v ∧ MemKeptOutside s (setByte s a v) a 1

/-- R127: an instruction whose word was written since the last IMB is not executed: the step faults, unless the fetch
aborts. R129, as the model reads it (log 9): at an address where an IMB is owed after a change between 26-bit and 32-bit modes
every instruction but an executed SWI faults, whatever was executed elsewhere in between; an executed SWI settles every debt
and empties the stale set. -/
def Obligations.BarrierNeeded : Prop :=
  (∀ s : State, s.inReset = false → fetchAborts s = false → s.pc.toNat ∈ s.stale →
      step s = .fault .staleInstruction)
    ∧ ∀ (s : State) (i : Instr),
      (s.pc ∈ s.imbOwed → isExecutedSwi i s = false → execDecoded (.instr i) s = .fault .modeChangeWithoutImb)
      ∧ (isExecutedSwi i s = true → ∃ t, execDecoded (.instr i) s = .next t ∧ t.imbOwed = [] ∧ t.stale = [])

/-- R43, the model's choice after the spec's decision D9 (log 12): in a 26-bit mode an instruction that reads R15 as an
operand, and that no other rule forbids, is refused by name: data processing with R15 as Rn or Rm, a single transfer with R15
as its base or as the register it stores, a halfword or signed transfer with R15 as its base, and STM, in both its forms, with
R15 in its list. -/
def Obligations.PcReadsIn26BitModes : Prop :=
  ∀ (c : Cond) (s : State), conditionPassed c s.cpsr = true → is26 s.cpsr.mode = true →
    (∀ op sb rd r k, readsRn op → exec (dp op c sb 15 rd (.imm r k)) s = .refused .r15ReadIn26BitMode)
    ∧ (∀ op sb rn rd n ty rm, (rm = 15 ∨ (readsRn op ∧ rn = 15)) →
      exec (dp op c sb rn rd (.shiftImm n ty rm)) s = .refused .r15ReadIn26BitMode)
    ∧ (∀ k up rn rd ix o, ¬ SingleForbidden s k up rn rd ix o → (rn = 15 ∨ (k = .str ∧ rd = 15)) →
      exec (single k c up rn rd ix o) s = .refused .r15ReadIn26BitMode)
    ∧ (∀ k up rd pre o, ¬ HalfForbidden s k up 15 rd pre o →
      exec (half k c up 15 rd pre o) s = .refused .r15ReadIn26BitMode)
    ∧ ∀ pre up rn (list : BitVec 16), rn ≠ 15 → list.getLsbD 15 = true →
      (∀ wb, exec (.stm c pre up wb rn list) s = .refused .r15ReadIn26BitMode)
      ∧ (¬ noSpsr s.cpsr.mode → exec (.stmUser c pre up false rn list) s = .refused .r15ReadIn26BitMode)

/-! ### Encoding, the step, invariants -/

/-- R162 and R166 to R180: every well-formed instruction, with every value of its operands, is what its word decodes to. The
layouts the spec supplies from general knowledge (G2 to G9) are PRESUMED (log 30). -/
def Obligations.DecodeEncode : Prop := ∀ i : Instr, i.wellFormed = true → decode (encode i) = .instr i

/-- R164 and R184: every word that decodes to an instruction is that instruction's word, and the instruction is well-formed:
the decoder drops no bit. The layouts the spec supplies from general knowledge (G2 to G9) are PRESUMED (log 30). -/
def Obligations.EncodeDecode : Prop :=
  ∀ (w : Word) (i : Instr), decode w = .instr i → i.wellFormed = true ∧ encode i = w

/-- R289, R332, R411, R427: words of the spec's own examples decode to the instructions they stand for. The layouts the spec
supplies from general knowledge (G2 to G9) are PRESUMED (log 30). -/
def Obligations.DecodeWords : Prop :=
  decode 0x00842005 = .instr (.addShiftImm .eq false 4 2 0 .lsl 5)
    ∧ decode 0xE0454237 = .instr (.subShiftReg .al false 5 4 2 .lsr 7)
    ∧ decode 0xE3340003 = .instr (.teqImm .al 4 0 0 3)
    ∧ decode 0xE0B51392 = .instr (.umlal .al true 5 1 3 2)
    ∧ decode 0xE5921010 = .instr (.ldrImmPre .al true false 2 1 16)
    ∧ decode 0xE8BD0007 = .instr (.ldm .al false true true 13 7)
    ∧ decode 0xE1020091 = .instr (.swp .al 2 0 1)
    ∧ decode 0xEFF00000 = .instr (.imb .al)

/-- R225: where the word at the PC decodes to an instruction, its fetch does not abort, it is not stale and no IMB is owed there, a
step outside reset is `exec` of that instruction, then the expiry of the IMB record (log 9), then the sampling of the pins
and the counting of the step. -/
def Obligations.StepRunsDecoded : Prop :=
  ∀ (s : State) (i : Instr), s.inReset = false → fetchAborts s = false → fetchStale s = false → s.pc ∉ s.imbOwed →
    decode (wordAt s s.pc) = .instr i →
      (∀ t, exec i s = .next t → step s = .next (endStep s (expireImb s t)))
      ∧ (∀ f, exec i s = .fault f → step s = .fault f)
      ∧ ∀ r, exec i s = .refused r → step s = .refused r

/-- The invariant holds right after reset. -/
def Obligations.InvariantAtReset : Prop := Inv State.reset

/-- The PC stays a multiple of 4 and inside the 26-bit address space in a 26-bit mode (R37, R43), memory keeps its canonical
form and the stale set its form, over every step from every state. -/
def Obligations.InvariantKept : Prop := ∀ s t : State, Inv s → step s = .next t → Inv t

/-- R46, R50 and R546: no instruction executed in User mode changes I, F, the mode, an SPSR or a register banked in an
exception mode, except by taking the exception it raises, which enters a privileged mode at its vector with I set. -/
def Obligations.UserProtection : Prop :=
  ∀ (i : Instr) (s t : State), isPrivileged s.cpsr.mode = false → exec i s = .next t →
    (t.cpsr.mode = s.cpsr.mode ∧ t.cpsr.i = s.cpsr.i ∧ t.cpsr.f = s.cpsr.f ∧ t.spsr = s.spsr
        ∧ ∀ r, isExceptionBanked r = true → getPhys t r = getPhys s r)
      ∨ (t.cpsr.i = true ∧ t.cpsr.f = s.cpsr.f
        ∧ ((t.cpsr.mode = .und ∧ t.pc = 0x04) ∨ (t.cpsr.mode = .svc ∧ t.pc = 0x08)
          ∨ (t.cpsr.mode = .abt ∧ t.pc = 0x10))
        ∧ ∀ r, isExceptionBanked r = true → r ≠ .r14 (modeBank t.cpsr.mode) → getPhys t r = getPhys s r)
end

