-- ==== Sys2Proof/Laws/State.lean ====
section
/-! SUPPORT. One lemma per field per update of the state, so that no proof unfolds a record update. -/

namespace Sys2Proof.Machine

variable (s : State)

/-! `setPhys` changes `regs` only. -/

@[simp] theorem setPhys_pc (p : PhysReg) (v : Word) : (setPhys s p v).pc = s.pc := by cases p <;> rfl
@[simp] theorem setPhys_cpsr (p : PhysReg) (v : Word) : (setPhys s p v).cpsr = s.cpsr := by cases p <;> rfl
@[simp] theorem setPhys_spsr (p : PhysReg) (v : Word) : (setPhys s p v).spsr = s.spsr := by cases p <;> rfl
@[simp] theorem setPhys_mem (p : PhysReg) (v : Word) : (setPhys s p v).mem = s.mem := by cases p <;> rfl
@[simp] theorem setPhys_stale (p : PhysReg) (v : Word) : (setPhys s p v).stale = s.stale := by cases p <;> rfl
@[simp] theorem setPhys_nextFetch (p : PhysReg) (v : Word) : (setPhys s p v).nextFetch = s.nextFetch := by cases p <;> rfl
@[simp] theorem setPhys_hazardStep (p : PhysReg) (v : Word) : (setPhys s p v).hazardStep = s.hazardStep := by cases p <;> rfl
@[simp] theorem setPhys_imbOwed (p : PhysReg) (v : Word) : (setPhys s p v).imbOwed = s.imbOwed := by cases p <;> rfl
@[simp] theorem setPhys_imbReturn (p : PhysReg) (v : Word) : (setPhys s p v).imbReturn = s.imbReturn := by cases p <;> rfl
@[simp] theorem setPhys_inReset (p : PhysReg) (v : Word) : (setPhys s p v).inReset = s.inReset := by cases p <;> rfl
@[simp] theorem setPhys_lines (p : PhysReg) (v : Word) : (setPhys s p v).lines = s.lines := by cases p <;> rfl
@[simp] theorem setPhys_abortMap (p : PhysReg) (v : Word) : (setPhys s p v).abortMap = s.abortMap := by cases p <;> rfl
@[simp] theorem setPhys_presentCps (p : PhysReg) (v : Word) : (setPhys s p v).presentCps = s.presentCps := by cases p <;> rfl
@[simp] theorem setPhys_coproc (p : PhysReg) (v : Word) : (setPhys s p v).coproc = s.coproc := by cases p <;> rfl
@[simp] theorem setPhys_coprocLog (p : PhysReg) (v : Word) : (setPhys s p v).coprocLog = s.coprocLog := by cases p <;> rfl
@[simp] theorem setPhys_controlLog (p : PhysReg) (v : Word) : (setPhys s p v).controlLog = s.controlLog := by cases p <;> rfl
@[simp] theorem setPhys_bigend (p : PhysReg) (v : Word) : (setPhys s p v).bigend = s.bigend := by cases p <;> rfl
@[simp] theorem setPhys_trapClassesBtoE (p : PhysReg) (v : Word) : (setPhys s p v).trapClassesBtoE = s.trapClassesBtoE := by cases p <;> rfl
@[simp] theorem setPhys_tick (p : PhysReg) (v : Word) : (setPhys s p v).tick = s.tick := by cases p <;> rfl

/-! `setSpsr` changes `spsr` only. -/

@[simp] theorem setSpsr_regs (b : Bank) (p : Psr) : (setSpsr s b p).regs = s.regs := by cases b <;> rfl
@[simp] theorem setSpsr_pc (b : Bank) (p : Psr) : (setSpsr s b p).pc = s.pc := by cases b <;> rfl
@[simp] theorem setSpsr_cpsr (b : Bank) (p : Psr) : (setSpsr s b p).cpsr = s.cpsr := by cases b <;> rfl
@[simp] theorem setSpsr_mem (b : Bank) (p : Psr) : (setSpsr s b p).mem = s.mem := by cases b <;> rfl
@[simp] theorem setSpsr_stale (b : Bank) (p : Psr) : (setSpsr s b p).stale = s.stale := by cases b <;> rfl
@[simp] theorem setSpsr_nextFetch (b : Bank) (p : Psr) : (setSpsr s b p).nextFetch = s.nextFetch := by cases b <;> rfl
@[simp] theorem setSpsr_hazardStep (b : Bank) (p : Psr) : (setSpsr s b p).hazardStep = s.hazardStep := by cases b <;> rfl
@[simp] theorem setSpsr_imbOwed (b : Bank) (p : Psr) : (setSpsr s b p).imbOwed = s.imbOwed := by cases b <;> rfl
@[simp] theorem setSpsr_imbReturn (b : Bank) (p : Psr) : (setSpsr s b p).imbReturn = s.imbReturn := by cases b <;> rfl
@[simp] theorem setSpsr_inReset (b : Bank) (p : Psr) : (setSpsr s b p).inReset = s.inReset := by cases b <;> rfl
@[simp] theorem setSpsr_lines (b : Bank) (p : Psr) : (setSpsr s b p).lines = s.lines := by cases b <;> rfl
@[simp] theorem setSpsr_abortMap (b : Bank) (p : Psr) : (setSpsr s b p).abortMap = s.abortMap := by cases b <;> rfl
@[simp] theorem setSpsr_presentCps (b : Bank) (p : Psr) : (setSpsr s b p).presentCps = s.presentCps := by cases b <;> rfl
@[simp] theorem setSpsr_coproc (b : Bank) (p : Psr) : (setSpsr s b p).coproc = s.coproc := by cases b <;> rfl
@[simp] theorem setSpsr_coprocLog (b : Bank) (p : Psr) : (setSpsr s b p).coprocLog = s.coprocLog := by cases b <;> rfl
@[simp] theorem setSpsr_controlLog (b : Bank) (p : Psr) : (setSpsr s b p).controlLog = s.controlLog := by cases b <;> rfl
@[simp] theorem setSpsr_bigend (b : Bank) (p : Psr) : (setSpsr s b p).bigend = s.bigend := by cases b <;> rfl
@[simp] theorem setSpsr_trapClassesBtoE (b : Bank) (p : Psr) : (setSpsr s b p).trapClassesBtoE = s.trapClassesBtoE := by cases b <;> rfl
@[simp] theorem setSpsr_tick (b : Bank) (p : Psr) : (setSpsr s b p).tick = s.tick := by cases b <;> rfl

/-! `writeReg` changes `regs` only. -/

@[simp] theorem writeReg_pc (i : RegNo) (v : Word) : (writeReg s i v).pc = s.pc := by unfold writeReg; split <;> simp
@[simp] theorem writeReg_cpsr (i : RegNo) (v : Word) : (writeReg s i v).cpsr = s.cpsr := by unfold writeReg; split <;> simp
@[simp] theorem writeReg_spsr (i : RegNo) (v : Word) : (writeReg s i v).spsr = s.spsr := by unfold writeReg; split <;> simp
@[simp] theorem writeReg_mem (i : RegNo) (v : Word) : (writeReg s i v).mem = s.mem := by unfold writeReg; split <;> simp
@[simp] theorem writeReg_stale (i : RegNo) (v : Word) : (writeReg s i v).stale = s.stale := by unfold writeReg; split <;> simp
@[simp] theorem writeReg_nextFetch (i : RegNo) (v : Word) : (writeReg s i v).nextFetch = s.nextFetch := by unfold writeReg; split <;> simp
@[simp] theorem writeReg_hazardStep (i : RegNo) (v : Word) : (writeReg s i v).hazardStep = s.hazardStep := by unfold writeReg; split <;> simp
@[simp] theorem writeReg_imbOwed (i : RegNo) (v : Word) : (writeReg s i v).imbOwed = s.imbOwed := by unfold writeReg; split <;> simp
@[simp] theorem writeReg_imbReturn (i : RegNo) (v : Word) : (writeReg s i v).imbReturn = s.imbReturn := by unfold writeReg; split <;> simp
@[simp] theorem writeReg_inReset (i : RegNo) (v : Word) : (writeReg s i v).inReset = s.inReset := by unfold writeReg; split <;> simp
@[simp] theorem writeReg_lines (i : RegNo) (v : Word) : (writeReg s i v).lines = s.lines := by unfold writeReg; split <;> simp
@[simp] theorem writeReg_abortMap (i : RegNo) (v : Word) : (writeReg s i v).abortMap = s.abortMap := by unfold writeReg; split <;> simp
@[simp] theorem writeReg_presentCps (i : RegNo) (v : Word) : (writeReg s i v).presentCps = s.presentCps := by unfold writeReg; split <;> simp
@[simp] theorem writeReg_coproc (i : RegNo) (v : Word) : (writeReg s i v).coproc = s.coproc := by unfold writeReg; split <;> simp
@[simp] theorem writeReg_coprocLog (i : RegNo) (v : Word) : (writeReg s i v).coprocLog = s.coprocLog := by unfold writeReg; split <;> simp
@[simp] theorem writeReg_controlLog (i : RegNo) (v : Word) : (writeReg s i v).controlLog = s.controlLog := by unfold writeReg; split <;> simp
@[simp] theorem writeReg_bigend (i : RegNo) (v : Word) : (writeReg s i v).bigend = s.bigend := by unfold writeReg; split <;> simp
@[simp] theorem writeReg_trapClassesBtoE (i : RegNo) (v : Word) : (writeReg s i v).trapClassesBtoE = s.trapClassesBtoE := by unfold writeReg; split <;> simp
@[simp] theorem writeReg_tick (i : RegNo) (v : Word) : (writeReg s i v).tick = s.tick := by unfold writeReg; split <;> simp

/-! `writeUserReg` changes `regs` only. -/

@[simp] theorem writeUserReg_pc (i : RegNo) (v : Word) : (writeUserReg s i v).pc = s.pc := by unfold writeUserReg; split <;> simp
@[simp] theorem writeUserReg_cpsr (i : RegNo) (v : Word) : (writeUserReg s i v).cpsr = s.cpsr := by unfold writeUserReg; split <;> simp
@[simp] theorem writeUserReg_spsr (i : RegNo) (v : Word) : (writeUserReg s i v).spsr = s.spsr := by unfold writeUserReg; split <;> simp
@[simp] theorem writeUserReg_mem (i : RegNo) (v : Word) : (writeUserReg s i v).mem = s.mem := by unfold writeUserReg; split <;> simp
@[simp] theorem writeUserReg_stale (i : RegNo) (v : Word) : (writeUserReg s i v).stale = s.stale := by unfold writeUserReg; split <;> simp
@[simp] theorem writeUserReg_nextFetch (i : RegNo) (v : Word) : (writeUserReg s i v).nextFetch = s.nextFetch := by unfold writeUserReg; split <;> simp
@[simp] theorem writeUserReg_hazardStep (i : RegNo) (v : Word) : (writeUserReg s i v).hazardStep = s.hazardStep := by unfold writeUserReg; split <;> simp
@[simp] theorem writeUserReg_imbOwed (i : RegNo) (v : Word) : (writeUserReg s i v).imbOwed = s.imbOwed := by unfold writeUserReg; split <;> simp
@[simp] theorem writeUserReg_imbReturn (i : RegNo) (v : Word) : (writeUserReg s i v).imbReturn = s.imbReturn := by unfold writeUserReg; split <;> simp
@[simp] theorem writeUserReg_inReset (i : RegNo) (v : Word) : (writeUserReg s i v).inReset = s.inReset := by unfold writeUserReg; split <;> simp
@[simp] theorem writeUserReg_lines (i : RegNo) (v : Word) : (writeUserReg s i v).lines = s.lines := by unfold writeUserReg; split <;> simp
@[simp] theorem writeUserReg_abortMap (i : RegNo) (v : Word) : (writeUserReg s i v).abortMap = s.abortMap := by unfold writeUserReg; split <;> simp
@[simp] theorem writeUserReg_presentCps (i : RegNo) (v : Word) : (writeUserReg s i v).presentCps = s.presentCps := by unfold writeUserReg; split <;> simp
@[simp] theorem writeUserReg_coproc (i : RegNo) (v : Word) : (writeUserReg s i v).coproc = s.coproc := by unfold writeUserReg; split <;> simp
@[simp] theorem writeUserReg_coprocLog (i : RegNo) (v : Word) : (writeUserReg s i v).coprocLog = s.coprocLog := by unfold writeUserReg; split <;> simp
@[simp] theorem writeUserReg_controlLog (i : RegNo) (v : Word) : (writeUserReg s i v).controlLog = s.controlLog := by unfold writeUserReg; split <;> simp
@[simp] theorem writeUserReg_bigend (i : RegNo) (v : Word) : (writeUserReg s i v).bigend = s.bigend := by unfold writeUserReg; split <;> simp
@[simp] theorem writeUserReg_trapClassesBtoE (i : RegNo) (v : Word) : (writeUserReg s i v).trapClassesBtoE = s.trapClassesBtoE := by unfold writeUserReg; split <;> simp
@[simp] theorem writeUserReg_tick (i : RegNo) (v : Word) : (writeUserReg s i v).tick = s.tick := by unfold writeUserReg; split <;> simp

/-! `setAluFlags` changes `cpsr` only. -/

@[simp] theorem setAluFlags_regs (r : AluResult) : (setAluFlags s r).regs = s.regs := rfl
@[simp] theorem setAluFlags_pc (r : AluResult) : (setAluFlags s r).pc = s.pc := rfl
@[simp] theorem setAluFlags_spsr (r : AluResult) : (setAluFlags s r).spsr = s.spsr := rfl
@[simp] theorem setAluFlags_mem (r : AluResult) : (setAluFlags s r).mem = s.mem := rfl
@[simp] theorem setAluFlags_stale (r : AluResult) : (setAluFlags s r).stale = s.stale := rfl
@[simp] theorem setAluFlags_nextFetch (r : AluResult) : (setAluFlags s r).nextFetch = s.nextFetch := rfl
@[simp] theorem setAluFlags_hazardStep (r : AluResult) : (setAluFlags s r).hazardStep = s.hazardStep := rfl
@[simp] theorem setAluFlags_imbOwed (r : AluResult) : (setAluFlags s r).imbOwed = s.imbOwed := rfl
@[simp] theorem setAluFlags_imbReturn (r : AluResult) : (setAluFlags s r).imbReturn = s.imbReturn := rfl
@[simp] theorem setAluFlags_inReset (r : AluResult) : (setAluFlags s r).inReset = s.inReset := rfl
@[simp] theorem setAluFlags_lines (r : AluResult) : (setAluFlags s r).lines = s.lines := rfl
@[simp] theorem setAluFlags_abortMap (r : AluResult) : (setAluFlags s r).abortMap = s.abortMap := rfl
@[simp] theorem setAluFlags_presentCps (r : AluResult) : (setAluFlags s r).presentCps = s.presentCps := rfl
@[simp] theorem setAluFlags_coproc (r : AluResult) : (setAluFlags s r).coproc = s.coproc := rfl
@[simp] theorem setAluFlags_coprocLog (r : AluResult) : (setAluFlags s r).coprocLog = s.coprocLog := rfl
@[simp] theorem setAluFlags_controlLog (r : AluResult) : (setAluFlags s r).controlLog = s.controlLog := rfl
@[simp] theorem setAluFlags_bigend (r : AluResult) : (setAluFlags s r).bigend = s.bigend := rfl
@[simp] theorem setAluFlags_trapClassesBtoE (r : AluResult) : (setAluFlags s r).trapClassesBtoE = s.trapClassesBtoE := rfl
@[simp] theorem setAluFlags_tick (r : AluResult) : (setAluFlags s r).tick = s.tick := rfl

/-! `setFlagBits` changes `cpsr` only. -/

@[simp] theorem setFlagBits_regs (w : Word) : (setFlagBits s w).regs = s.regs := rfl
@[simp] theorem setFlagBits_pc (w : Word) : (setFlagBits s w).pc = s.pc := rfl
@[simp] theorem setFlagBits_spsr (w : Word) : (setFlagBits s w).spsr = s.spsr := rfl
@[simp] theorem setFlagBits_mem (w : Word) : (setFlagBits s w).mem = s.mem := rfl
@[simp] theorem setFlagBits_stale (w : Word) : (setFlagBits s w).stale = s.stale := rfl
@[simp] theorem setFlagBits_nextFetch (w : Word) : (setFlagBits s w).nextFetch = s.nextFetch := rfl
@[simp] theorem setFlagBits_hazardStep (w : Word) : (setFlagBits s w).hazardStep = s.hazardStep := rfl
@[simp] theorem setFlagBits_imbOwed (w : Word) : (setFlagBits s w).imbOwed = s.imbOwed := rfl
@[simp] theorem setFlagBits_imbReturn (w : Word) : (setFlagBits s w).imbReturn = s.imbReturn := rfl
@[simp] theorem setFlagBits_inReset (w : Word) : (setFlagBits s w).inReset = s.inReset := rfl
@[simp] theorem setFlagBits_lines (w : Word) : (setFlagBits s w).lines = s.lines := rfl
@[simp] theorem setFlagBits_abortMap (w : Word) : (setFlagBits s w).abortMap = s.abortMap := rfl
@[simp] theorem setFlagBits_presentCps (w : Word) : (setFlagBits s w).presentCps = s.presentCps := rfl
@[simp] theorem setFlagBits_coproc (w : Word) : (setFlagBits s w).coproc = s.coproc := rfl
@[simp] theorem setFlagBits_coprocLog (w : Word) : (setFlagBits s w).coprocLog = s.coprocLog := rfl
@[simp] theorem setFlagBits_controlLog (w : Word) : (setFlagBits s w).controlLog = s.controlLog := rfl
@[simp] theorem setFlagBits_bigend (w : Word) : (setFlagBits s w).bigend = s.bigend := rfl
@[simp] theorem setFlagBits_trapClassesBtoE (w : Word) : (setFlagBits s w).trapClassesBtoE = s.trapClassesBtoE := rfl
@[simp] theorem setFlagBits_tick (w : Word) : (setFlagBits s w).tick = s.tick := rfl

/-! `setPsr26` changes `cpsr` only. -/

@[simp] theorem setPsr26_regs (w : Word) : (setPsr26 s w).regs = s.regs := by unfold setPsr26; split <;> rfl
@[simp] theorem setPsr26_pc (w : Word) : (setPsr26 s w).pc = s.pc := by unfold setPsr26; split <;> rfl
@[simp] theorem setPsr26_spsr (w : Word) : (setPsr26 s w).spsr = s.spsr := by unfold setPsr26; split <;> rfl
@[simp] theorem setPsr26_mem (w : Word) : (setPsr26 s w).mem = s.mem := by unfold setPsr26; split <;> rfl
@[simp] theorem setPsr26_stale (w : Word) : (setPsr26 s w).stale = s.stale := by unfold setPsr26; split <;> rfl
@[simp] theorem setPsr26_nextFetch (w : Word) : (setPsr26 s w).nextFetch = s.nextFetch := by unfold setPsr26; split <;> rfl
@[simp] theorem setPsr26_hazardStep (w : Word) : (setPsr26 s w).hazardStep = s.hazardStep := by unfold setPsr26; split <;> rfl
@[simp] theorem setPsr26_imbOwed (w : Word) : (setPsr26 s w).imbOwed = s.imbOwed := by unfold setPsr26; split <;> rfl
@[simp] theorem setPsr26_imbReturn (w : Word) : (setPsr26 s w).imbReturn = s.imbReturn := by unfold setPsr26; split <;> rfl
@[simp] theorem setPsr26_inReset (w : Word) : (setPsr26 s w).inReset = s.inReset := by unfold setPsr26; split <;> rfl
@[simp] theorem setPsr26_lines (w : Word) : (setPsr26 s w).lines = s.lines := by unfold setPsr26; split <;> rfl
@[simp] theorem setPsr26_abortMap (w : Word) : (setPsr26 s w).abortMap = s.abortMap := by unfold setPsr26; split <;> rfl
@[simp] theorem setPsr26_presentCps (w : Word) : (setPsr26 s w).presentCps = s.presentCps := by unfold setPsr26; split <;> rfl
@[simp] theorem setPsr26_coproc (w : Word) : (setPsr26 s w).coproc = s.coproc := by unfold setPsr26; split <;> rfl
@[simp] theorem setPsr26_coprocLog (w : Word) : (setPsr26 s w).coprocLog = s.coprocLog := by unfold setPsr26; split <;> rfl
@[simp] theorem setPsr26_controlLog (w : Word) : (setPsr26 s w).controlLog = s.controlLog := by unfold setPsr26; split <;> rfl
@[simp] theorem setPsr26_bigend (w : Word) : (setPsr26 s w).bigend = s.bigend := by unfold setPsr26; split <;> rfl
@[simp] theorem setPsr26_trapClassesBtoE (w : Word) : (setPsr26 s w).trapClassesBtoE = s.trapClassesBtoE := by unfold setPsr26; split <;> rfl
@[simp] theorem setPsr26_tick (w : Word) : (setPsr26 s w).tick = s.tick := by unfold setPsr26; split <;> rfl

/-! `setMultiplyFlags` changes `cpsr` only. -/

@[simp] theorem setMultiplyFlags_regs (w : Word) : (setMultiplyFlags s w).regs = s.regs := rfl
@[simp] theorem setMultiplyFlags_pc (w : Word) : (setMultiplyFlags s w).pc = s.pc := rfl
@[simp] theorem setMultiplyFlags_spsr (w : Word) : (setMultiplyFlags s w).spsr = s.spsr := rfl
@[simp] theorem setMultiplyFlags_mem (w : Word) : (setMultiplyFlags s w).mem = s.mem := rfl
@[simp] theorem setMultiplyFlags_stale (w : Word) : (setMultiplyFlags s w).stale = s.stale := rfl
@[simp] theorem setMultiplyFlags_nextFetch (w : Word) : (setMultiplyFlags s w).nextFetch = s.nextFetch := rfl
@[simp] theorem setMultiplyFlags_hazardStep (w : Word) : (setMultiplyFlags s w).hazardStep = s.hazardStep := rfl
@[simp] theorem setMultiplyFlags_imbOwed (w : Word) : (setMultiplyFlags s w).imbOwed = s.imbOwed := rfl
@[simp] theorem setMultiplyFlags_imbReturn (w : Word) : (setMultiplyFlags s w).imbReturn = s.imbReturn := rfl
@[simp] theorem setMultiplyFlags_inReset (w : Word) : (setMultiplyFlags s w).inReset = s.inReset := rfl
@[simp] theorem setMultiplyFlags_lines (w : Word) : (setMultiplyFlags s w).lines = s.lines := rfl
@[simp] theorem setMultiplyFlags_abortMap (w : Word) : (setMultiplyFlags s w).abortMap = s.abortMap := rfl
@[simp] theorem setMultiplyFlags_presentCps (w : Word) : (setMultiplyFlags s w).presentCps = s.presentCps := rfl
@[simp] theorem setMultiplyFlags_coproc (w : Word) : (setMultiplyFlags s w).coproc = s.coproc := rfl
@[simp] theorem setMultiplyFlags_coprocLog (w : Word) : (setMultiplyFlags s w).coprocLog = s.coprocLog := rfl
@[simp] theorem setMultiplyFlags_controlLog (w : Word) : (setMultiplyFlags s w).controlLog = s.controlLog := rfl
@[simp] theorem setMultiplyFlags_bigend (w : Word) : (setMultiplyFlags s w).bigend = s.bigend := rfl
@[simp] theorem setMultiplyFlags_trapClassesBtoE (w : Word) : (setMultiplyFlags s w).trapClassesBtoE = s.trapClassesBtoE := rfl
@[simp] theorem setMultiplyFlags_tick (w : Word) : (setMultiplyFlags s w).tick = s.tick := rfl

/-! `setLongMultiplyFlags` changes `cpsr` only. -/

@[simp] theorem setLongMultiplyFlags_regs (w : BitVec 64) : (setLongMultiplyFlags s w).regs = s.regs := rfl
@[simp] theorem setLongMultiplyFlags_pc (w : BitVec 64) : (setLongMultiplyFlags s w).pc = s.pc := rfl
@[simp] theorem setLongMultiplyFlags_spsr (w : BitVec 64) : (setLongMultiplyFlags s w).spsr = s.spsr := rfl
@[simp] theorem setLongMultiplyFlags_mem (w : BitVec 64) : (setLongMultiplyFlags s w).mem = s.mem := rfl
@[simp] theorem setLongMultiplyFlags_stale (w : BitVec 64) : (setLongMultiplyFlags s w).stale = s.stale := rfl
@[simp] theorem setLongMultiplyFlags_nextFetch (w : BitVec 64) : (setLongMultiplyFlags s w).nextFetch = s.nextFetch := rfl
@[simp] theorem setLongMultiplyFlags_hazardStep (w : BitVec 64) : (setLongMultiplyFlags s w).hazardStep = s.hazardStep := rfl
@[simp] theorem setLongMultiplyFlags_imbOwed (w : BitVec 64) : (setLongMultiplyFlags s w).imbOwed = s.imbOwed := rfl
@[simp] theorem setLongMultiplyFlags_imbReturn (w : BitVec 64) : (setLongMultiplyFlags s w).imbReturn = s.imbReturn := rfl
@[simp] theorem setLongMultiplyFlags_inReset (w : BitVec 64) : (setLongMultiplyFlags s w).inReset = s.inReset := rfl
@[simp] theorem setLongMultiplyFlags_lines (w : BitVec 64) : (setLongMultiplyFlags s w).lines = s.lines := rfl
@[simp] theorem setLongMultiplyFlags_abortMap (w : BitVec 64) : (setLongMultiplyFlags s w).abortMap = s.abortMap := rfl
@[simp] theorem setLongMultiplyFlags_presentCps (w : BitVec 64) : (setLongMultiplyFlags s w).presentCps = s.presentCps := rfl
@[simp] theorem setLongMultiplyFlags_coproc (w : BitVec 64) : (setLongMultiplyFlags s w).coproc = s.coproc := rfl
@[simp] theorem setLongMultiplyFlags_coprocLog (w : BitVec 64) : (setLongMultiplyFlags s w).coprocLog = s.coprocLog := rfl
@[simp] theorem setLongMultiplyFlags_controlLog (w : BitVec 64) : (setLongMultiplyFlags s w).controlLog = s.controlLog := rfl
@[simp] theorem setLongMultiplyFlags_bigend (w : BitVec 64) : (setLongMultiplyFlags s w).bigend = s.bigend := rfl
@[simp] theorem setLongMultiplyFlags_trapClassesBtoE (w : BitVec 64) : (setLongMultiplyFlags s w).trapClassesBtoE = s.trapClassesBtoE := rfl
@[simp] theorem setLongMultiplyFlags_tick (w : BitVec 64) : (setLongMultiplyFlags s w).tick = s.tick := rfl

/-! `branchTo` changes `pc` and `nextFetch` only. -/

@[simp] theorem branchTo_regs (t : Word) : (branchTo s t).regs = s.regs := rfl
@[simp] theorem branchTo_cpsr (t : Word) : (branchTo s t).cpsr = s.cpsr := rfl
@[simp] theorem branchTo_spsr (t : Word) : (branchTo s t).spsr = s.spsr := rfl
@[simp] theorem branchTo_mem (t : Word) : (branchTo s t).mem = s.mem := rfl
@[simp] theorem branchTo_stale (t : Word) : (branchTo s t).stale = s.stale := rfl
@[simp] theorem branchTo_hazardStep (t : Word) : (branchTo s t).hazardStep = s.hazardStep := rfl
@[simp] theorem branchTo_imbOwed (t : Word) : (branchTo s t).imbOwed = s.imbOwed := rfl
@[simp] theorem branchTo_imbReturn (t : Word) : (branchTo s t).imbReturn = s.imbReturn := rfl
@[simp] theorem branchTo_inReset (t : Word) : (branchTo s t).inReset = s.inReset := rfl
@[simp] theorem branchTo_lines (t : Word) : (branchTo s t).lines = s.lines := rfl
@[simp] theorem branchTo_abortMap (t : Word) : (branchTo s t).abortMap = s.abortMap := rfl
@[simp] theorem branchTo_presentCps (t : Word) : (branchTo s t).presentCps = s.presentCps := rfl
@[simp] theorem branchTo_coproc (t : Word) : (branchTo s t).coproc = s.coproc := rfl
@[simp] theorem branchTo_coprocLog (t : Word) : (branchTo s t).coprocLog = s.coprocLog := rfl
@[simp] theorem branchTo_controlLog (t : Word) : (branchTo s t).controlLog = s.controlLog := rfl
@[simp] theorem branchTo_bigend (t : Word) : (branchTo s t).bigend = s.bigend := rfl
@[simp] theorem branchTo_trapClassesBtoE (t : Word) : (branchTo s t).trapClassesBtoE = s.trapClassesBtoE := rfl
@[simp] theorem branchTo_tick (t : Word) : (branchTo s t).tick = s.tick := rfl

/-! `setByte` changes `mem` only. -/

@[simp] theorem setByte_regs (a : Word) (v : Byte) : (setByte s a v).regs = s.regs := rfl
@[simp] theorem setByte_pc (a : Word) (v : Byte) : (setByte s a v).pc = s.pc := rfl
@[simp] theorem setByte_cpsr (a : Word) (v : Byte) : (setByte s a v).cpsr = s.cpsr := rfl
@[simp] theorem setByte_spsr (a : Word) (v : Byte) : (setByte s a v).spsr = s.spsr := rfl
@[simp] theorem setByte_stale (a : Word) (v : Byte) : (setByte s a v).stale = s.stale := rfl
@[simp] theorem setByte_nextFetch (a : Word) (v : Byte) : (setByte s a v).nextFetch = s.nextFetch := rfl
@[simp] theorem setByte_hazardStep (a : Word) (v : Byte) : (setByte s a v).hazardStep = s.hazardStep := rfl
@[simp] theorem setByte_imbOwed (a : Word) (v : Byte) : (setByte s a v).imbOwed = s.imbOwed := rfl
@[simp] theorem setByte_imbReturn (a : Word) (v : Byte) : (setByte s a v).imbReturn = s.imbReturn := rfl
@[simp] theorem setByte_inReset (a : Word) (v : Byte) : (setByte s a v).inReset = s.inReset := rfl
@[simp] theorem setByte_lines (a : Word) (v : Byte) : (setByte s a v).lines = s.lines := rfl
@[simp] theorem setByte_abortMap (a : Word) (v : Byte) : (setByte s a v).abortMap = s.abortMap := rfl
@[simp] theorem setByte_presentCps (a : Word) (v : Byte) : (setByte s a v).presentCps = s.presentCps := rfl
@[simp] theorem setByte_coproc (a : Word) (v : Byte) : (setByte s a v).coproc = s.coproc := rfl
@[simp] theorem setByte_coprocLog (a : Word) (v : Byte) : (setByte s a v).coprocLog = s.coprocLog := rfl
@[simp] theorem setByte_controlLog (a : Word) (v : Byte) : (setByte s a v).controlLog = s.controlLog := rfl
@[simp] theorem setByte_bigend (a : Word) (v : Byte) : (setByte s a v).bigend = s.bigend := rfl
@[simp] theorem setByte_trapClassesBtoE (a : Word) (v : Byte) : (setByte s a v).trapClassesBtoE = s.trapClassesBtoE := rfl
@[simp] theorem setByte_tick (a : Word) (v : Byte) : (setByte s a v).tick = s.tick := rfl

/-! `setHalf` changes `mem` only. -/

@[simp] theorem setHalf_regs (a : Word) (v : Half) : (setHalf s a v).regs = s.regs := by unfold setHalf; split <;> rfl
@[simp] theorem setHalf_pc (a : Word) (v : Half) : (setHalf s a v).pc = s.pc := by unfold setHalf; split <;> rfl
@[simp] theorem setHalf_cpsr (a : Word) (v : Half) : (setHalf s a v).cpsr = s.cpsr := by unfold setHalf; split <;> rfl
@[simp] theorem setHalf_spsr (a : Word) (v : Half) : (setHalf s a v).spsr = s.spsr := by unfold setHalf; split <;> rfl
@[simp] theorem setHalf_stale (a : Word) (v : Half) : (setHalf s a v).stale = s.stale := by unfold setHalf; split <;> rfl
@[simp] theorem setHalf_nextFetch (a : Word) (v : Half) : (setHalf s a v).nextFetch = s.nextFetch := by unfold setHalf; split <;> rfl
@[simp] theorem setHalf_hazardStep (a : Word) (v : Half) : (setHalf s a v).hazardStep = s.hazardStep := by unfold setHalf; split <;> rfl
@[simp] theorem setHalf_imbOwed (a : Word) (v : Half) : (setHalf s a v).imbOwed = s.imbOwed := by unfold setHalf; split <;> rfl
@[simp] theorem setHalf_imbReturn (a : Word) (v : Half) : (setHalf s a v).imbReturn = s.imbReturn := by unfold setHalf; split <;> rfl
@[simp] theorem setHalf_inReset (a : Word) (v : Half) : (setHalf s a v).inReset = s.inReset := by unfold setHalf; split <;> rfl
@[simp] theorem setHalf_lines (a : Word) (v : Half) : (setHalf s a v).lines = s.lines := by unfold setHalf; split <;> rfl
@[simp] theorem setHalf_abortMap (a : Word) (v : Half) : (setHalf s a v).abortMap = s.abortMap := by unfold setHalf; split <;> rfl
@[simp] theorem setHalf_presentCps (a : Word) (v : Half) : (setHalf s a v).presentCps = s.presentCps := by unfold setHalf; split <;> rfl
@[simp] theorem setHalf_coproc (a : Word) (v : Half) : (setHalf s a v).coproc = s.coproc := by unfold setHalf; split <;> rfl
@[simp] theorem setHalf_coprocLog (a : Word) (v : Half) : (setHalf s a v).coprocLog = s.coprocLog := by unfold setHalf; split <;> rfl
@[simp] theorem setHalf_controlLog (a : Word) (v : Half) : (setHalf s a v).controlLog = s.controlLog := by unfold setHalf; split <;> rfl
@[simp] theorem setHalf_bigend (a : Word) (v : Half) : (setHalf s a v).bigend = s.bigend := by unfold setHalf; split <;> rfl
@[simp] theorem setHalf_trapClassesBtoE (a : Word) (v : Half) : (setHalf s a v).trapClassesBtoE = s.trapClassesBtoE := by unfold setHalf; split <;> rfl
@[simp] theorem setHalf_tick (a : Word) (v : Half) : (setHalf s a v).tick = s.tick := by unfold setHalf; split <;> rfl

/-! `setWord` changes `mem` only. -/

@[simp] theorem setWord_regs (a v : Word) : (setWord s a v).regs = s.regs := by unfold setWord; dsimp only; split <;> rfl
@[simp] theorem setWord_pc (a v : Word) : (setWord s a v).pc = s.pc := by unfold setWord; dsimp only; split <;> rfl
@[simp] theorem setWord_cpsr (a v : Word) : (setWord s a v).cpsr = s.cpsr := by unfold setWord; dsimp only; split <;> rfl
@[simp] theorem setWord_spsr (a v : Word) : (setWord s a v).spsr = s.spsr := by unfold setWord; dsimp only; split <;> rfl
@[simp] theorem setWord_stale (a v : Word) : (setWord s a v).stale = s.stale := by unfold setWord; dsimp only; split <;> rfl
@[simp] theorem setWord_nextFetch (a v : Word) : (setWord s a v).nextFetch = s.nextFetch := by unfold setWord; dsimp only; split <;> rfl
@[simp] theorem setWord_hazardStep (a v : Word) : (setWord s a v).hazardStep = s.hazardStep := by unfold setWord; dsimp only; split <;> rfl
@[simp] theorem setWord_imbOwed (a v : Word) : (setWord s a v).imbOwed = s.imbOwed := by unfold setWord; dsimp only; split <;> rfl
@[simp] theorem setWord_imbReturn (a v : Word) : (setWord s a v).imbReturn = s.imbReturn := by unfold setWord; dsimp only; split <;> rfl
@[simp] theorem setWord_inReset (a v : Word) : (setWord s a v).inReset = s.inReset := by unfold setWord; dsimp only; split <;> rfl
@[simp] theorem setWord_lines (a v : Word) : (setWord s a v).lines = s.lines := by unfold setWord; dsimp only; split <;> rfl
@[simp] theorem setWord_abortMap (a v : Word) : (setWord s a v).abortMap = s.abortMap := by unfold setWord; dsimp only; split <;> rfl
@[simp] theorem setWord_presentCps (a v : Word) : (setWord s a v).presentCps = s.presentCps := by unfold setWord; dsimp only; split <;> rfl
@[simp] theorem setWord_coproc (a v : Word) : (setWord s a v).coproc = s.coproc := by unfold setWord; dsimp only; split <;> rfl
@[simp] theorem setWord_coprocLog (a v : Word) : (setWord s a v).coprocLog = s.coprocLog := by unfold setWord; dsimp only; split <;> rfl
@[simp] theorem setWord_controlLog (a v : Word) : (setWord s a v).controlLog = s.controlLog := by unfold setWord; dsimp only; split <;> rfl
@[simp] theorem setWord_bigend (a v : Word) : (setWord s a v).bigend = s.bigend := by unfold setWord; dsimp only; split <;> rfl
@[simp] theorem setWord_trapClassesBtoE (a v : Word) : (setWord s a v).trapClassesBtoE = s.trapClassesBtoE := by unfold setWord; dsimp only; split <;> rfl
@[simp] theorem setWord_tick (a v : Word) : (setWord s a v).tick = s.tick := by unfold setWord; dsimp only; split <;> rfl

/-! `markStale` changes `stale` only. -/

@[simp] theorem markStale_regs (a : Word) : (markStale s a).regs = s.regs := rfl
@[simp] theorem markStale_pc (a : Word) : (markStale s a).pc = s.pc := rfl
@[simp] theorem markStale_cpsr (a : Word) : (markStale s a).cpsr = s.cpsr := rfl
@[simp] theorem markStale_spsr (a : Word) : (markStale s a).spsr = s.spsr := rfl
@[simp] theorem markStale_mem (a : Word) : (markStale s a).mem = s.mem := rfl
@[simp] theorem markStale_nextFetch (a : Word) : (markStale s a).nextFetch = s.nextFetch := rfl
@[simp] theorem markStale_hazardStep (a : Word) : (markStale s a).hazardStep = s.hazardStep := rfl
@[simp] theorem markStale_imbOwed (a : Word) : (markStale s a).imbOwed = s.imbOwed := rfl
@[simp] theorem markStale_imbReturn (a : Word) : (markStale s a).imbReturn = s.imbReturn := rfl
@[simp] theorem markStale_inReset (a : Word) : (markStale s a).inReset = s.inReset := rfl
@[simp] theorem markStale_lines (a : Word) : (markStale s a).lines = s.lines := rfl
@[simp] theorem markStale_abortMap (a : Word) : (markStale s a).abortMap = s.abortMap := rfl
@[simp] theorem markStale_presentCps (a : Word) : (markStale s a).presentCps = s.presentCps := rfl
@[simp] theorem markStale_coproc (a : Word) : (markStale s a).coproc = s.coproc := rfl
@[simp] theorem markStale_coprocLog (a : Word) : (markStale s a).coprocLog = s.coprocLog := rfl
@[simp] theorem markStale_controlLog (a : Word) : (markStale s a).controlLog = s.controlLog := rfl
@[simp] theorem markStale_bigend (a : Word) : (markStale s a).bigend = s.bigend := rfl
@[simp] theorem markStale_trapClassesBtoE (a : Word) : (markStale s a).trapClassesBtoE = s.trapClassesBtoE := rfl
@[simp] theorem markStale_tick (a : Word) : (markStale s a).tick = s.tick := rfl

/-! What `takeException` sets and what it keeps (spec/60_exceptions.md R506). -/

@[simp] theorem takeException_mem (e : Exc) (ret : Word) : (takeException e ret s).mem = s.mem := by
  cases e <;> rfl
@[simp] theorem takeException_stale (e : Exc) (ret : Word) : (takeException e ret s).stale = s.stale := by
  cases e <;> rfl
@[simp] theorem takeException_hazardStep (e : Exc) (ret : Word) : (takeException e ret s).hazardStep = s.hazardStep := by
  cases e <;> rfl
@[simp] theorem takeException_imbReturn (e : Exc) (ret : Word) : (takeException e ret s).imbReturn = s.imbReturn := by
  cases e <;> rfl
@[simp] theorem takeException_inReset (e : Exc) (ret : Word) : (takeException e ret s).inReset = s.inReset := by
  cases e <;> rfl
@[simp] theorem takeException_lines (e : Exc) (ret : Word) : (takeException e ret s).lines = s.lines := by
  cases e <;> rfl
@[simp] theorem takeException_abortMap (e : Exc) (ret : Word) : (takeException e ret s).abortMap = s.abortMap := by
  cases e <;> rfl
@[simp] theorem takeException_presentCps (e : Exc) (ret : Word) : (takeException e ret s).presentCps = s.presentCps := by
  cases e <;> rfl
@[simp] theorem takeException_coproc (e : Exc) (ret : Word) : (takeException e ret s).coproc = s.coproc := by
  cases e <;> rfl
@[simp] theorem takeException_coprocLog (e : Exc) (ret : Word) : (takeException e ret s).coprocLog = s.coprocLog := by
  cases e <;> rfl
@[simp] theorem takeException_controlLog (e : Exc) (ret : Word) : (takeException e ret s).controlLog = s.controlLog := by
  cases e <;> rfl
@[simp] theorem takeException_bigend (e : Exc) (ret : Word) : (takeException e ret s).bigend = s.bigend := by
  cases e <;> rfl
@[simp] theorem takeException_trapClassesBtoE (e : Exc) (ret : Word) : (takeException e ret s).trapClassesBtoE = s.trapClassesBtoE := by
  cases e <;> rfl
@[simp] theorem takeException_tick (e : Exc) (ret : Word) : (takeException e ret s).tick = s.tick := by
  cases e <;> rfl
@[simp] theorem takeException_pc (e : Exc) (ret : Word) : (takeException e ret s).pc = excVector e := by
  cases e <;> rfl
@[simp] theorem takeException_imbOwed (e : Exc) (ret : Word) : (takeException e ret s).imbOwed = s.imbOwed := by
  cases e <;> rfl
@[simp] theorem takeException_nextFetch (e : Exc) (ret : Word) : (takeException e ret s).nextFetch = .nonSequential := by
  cases e <;> rfl
@[simp] theorem takeException_mode (e : Exc) (ret : Word) : (takeException e ret s).cpsr.mode = excMode e := by
  cases e <;> rfl
@[simp] theorem takeException_cpsr_i (e : Exc) (ret : Word) : (takeException e ret s).cpsr.i = true := by
  cases e <;> rfl

/-! Flags the status register updates keep. -/

@[simp] theorem setAluFlags_cpsr_i (r : AluResult) : (setAluFlags s r).cpsr.i = s.cpsr.i := rfl
@[simp] theorem setAluFlags_cpsr_f (r : AluResult) : (setAluFlags s r).cpsr.f = s.cpsr.f := rfl
@[simp] theorem setAluFlags_cpsr_mode (r : AluResult) : (setAluFlags s r).cpsr.mode = s.cpsr.mode := rfl
@[simp] theorem setFlagBits_cpsr_i (w : Word) : (setFlagBits s w).cpsr.i = s.cpsr.i := rfl
@[simp] theorem setFlagBits_cpsr_f (w : Word) : (setFlagBits s w).cpsr.f = s.cpsr.f := rfl
@[simp] theorem setFlagBits_cpsr_mode (w : Word) : (setFlagBits s w).cpsr.mode = s.cpsr.mode := rfl
@[simp] theorem setMultiplyFlags_cpsr_i (w : Word) : (setMultiplyFlags s w).cpsr.i = s.cpsr.i := rfl
@[simp] theorem setMultiplyFlags_cpsr_f (w : Word) : (setMultiplyFlags s w).cpsr.f = s.cpsr.f := rfl
@[simp] theorem setMultiplyFlags_cpsr_mode (w : Word) : (setMultiplyFlags s w).cpsr.mode = s.cpsr.mode := rfl
@[simp] theorem setLongMultiplyFlags_cpsr_i (w : BitVec 64) : (setLongMultiplyFlags s w).cpsr.i = s.cpsr.i := rfl
@[simp] theorem setLongMultiplyFlags_cpsr_f (w : BitVec 64) : (setLongMultiplyFlags s w).cpsr.f = s.cpsr.f := rfl
@[simp] theorem setLongMultiplyFlags_cpsr_mode (w : BitVec 64) : (setLongMultiplyFlags s w).cpsr.mode = s.cpsr.mode := rfl
@[simp] theorem setMultiplyFlags_cpsr_v (w : Word) : (setMultiplyFlags s w).cpsr.v = s.cpsr.v := rfl

@[simp] theorem branchTo_nextFetch (t : Word) : (branchTo s t).nextFetch = .nonSequential := rfl
@[simp] theorem branchTo_pc (t : Word) : (branchTo s t).pc = pcOf s.cpsr.mode t := rfl
@[simp] theorem setByte_mem (a : Word) (v : Byte) : (setByte s a v).mem = s.mem.write a.toNat v := rfl
@[simp] theorem markStale_stale (a : Word) : (markStale s a).stale = insertStale (wordBase a).toNat s.stale := rfl

end Sys2Proof.Machine
end

