-- ==== Sys2Proof/Laws/Memory.lean ====
section
/-! SUPPORT. Memory: a read after a write, and the canonical form every operation keeps. -/

namespace Sys2Proof.Machine

theorem Memory.read_erase_same (m : Memory) (a : Nat) : (m.erase a).read a = unlistedByte := by
  induction m with
  | nil => rfl
  | cons c m ih =>
    obtain ⟨k, b⟩ := c
    by_cases h : k = a <;> simp [Memory.erase, h, Memory.read, ih]

theorem Memory.read_erase_other (m : Memory) {a x : Nat} (hx : x ≠ a) : (m.erase a).read x = m.read x := by
  induction m with
  | nil => rfl
  | cons c m ih =>
    obtain ⟨k, b⟩ := c
    by_cases h : k = a
    · subst h; simp [Memory.erase, Memory.read, ih, Ne.symm hx]
    · simp only [Memory.erase, h, if_false, Memory.read, ih]

theorem Memory.read_insert_other (m : Memory) {a x : Nat} (v : Byte) (hx : x ≠ a) :
    (m.insert a v).read x = m.read x := by
  induction m with
  | nil => simp [Memory.insert, Memory.read, Ne.symm hx]
  | cons c m ih =>
    obtain ⟨k, b⟩ := c
    by_cases h : a < k
    · simp [Memory.insert, h, Memory.read, Ne.symm hx]
    · simp only [Memory.insert, h, if_false, Memory.read, ih]

/-- In a memory that does not list an address, the entry put in is the one read. -/
theorem Memory.read_insert_erase (m : Memory) (a : Nat) (v : Byte) : ((m.erase a).insert a v).read a = v := by
  induction m with
  | nil => simp [Memory.erase, Memory.insert, Memory.read]
  | cons c m ih =>
    obtain ⟨k, b⟩ := c
    by_cases h : k = a
    · simp [Memory.erase, h, ih]
    · by_cases h2 : a < k <;> simp [Memory.erase, h, Memory.insert, h2, Memory.read, ih]

/-- A read after a write to the same address gives the byte written. -/
theorem Memory.read_write_same (m : Memory) (a : Nat) (v : Byte) : (m.write a v).read a = v := by
  unfold Memory.write
  split
  · simp_all [Memory.read_erase_same]
  · exact m.read_insert_erase a v

/-- A write leaves every other address alone. -/
theorem Memory.read_write_other (m : Memory) {a x : Nat} (v : Byte) (hx : x ≠ a) : (m.write a v).read x = m.read x := by
  unfold Memory.write
  split
  · exact m.read_erase_other hx
  · rw [Memory.read_insert_other _ _ hx, m.read_erase_other hx]

theorem Memory.wfFrom_mono {m : Memory} {lo lo' : Nat} (h : m.wfFrom lo = true) (hl : lo' ≤ lo) :
    m.wfFrom lo' = true := by
  cases m with
  | nil => rfl
  | cons c m =>
    obtain ⟨k, b⟩ := c
    simp only [Memory.wfFrom, Bool.and_eq_true, decide_eq_true_eq] at h ⊢
    exact ⟨⟨⟨le_trans hl h.1.1.1, h.1.1.2⟩, h.1.2⟩, h.2⟩

theorem Memory.wfFrom_erase {m : Memory} {lo : Nat} (a : Nat) (h : m.wfFrom lo = true) :
    (m.erase a).wfFrom lo = true := by
  induction m generalizing lo with
  | nil => rfl
  | cons c m ih =>
    obtain ⟨k, b⟩ := c
    simp only [Memory.wfFrom, Bool.and_eq_true, decide_eq_true_eq] at h
    by_cases hk : k = a
    · simp only [Memory.erase, hk, if_true]
      exact Memory.wfFrom_mono (ih h.2) (by omega)
    · simp only [Memory.erase, hk, if_false, Memory.wfFrom, Bool.and_eq_true, decide_eq_true_eq]
      exact ⟨⟨⟨h.1.1.1, h.1.1.2⟩, h.1.2⟩, ih h.2⟩

theorem Memory.wfFrom_insert {m : Memory} {lo a : Nat} {v : Byte} (h : m.wfFrom lo = true) (hlo : lo ≤ a)
    (ha : a < 2 ^ 32) (hv : v ≠ unlistedByte) (hn : ∀ c ∈ m, c.1 ≠ a) : (m.insert a v).wfFrom lo = true := by
  induction m generalizing lo with
  | nil => simpa [Memory.insert, Memory.wfFrom, hv, hlo] using ha
  | cons c m ih =>
    obtain ⟨k, b⟩ := c
    have hka : k ≠ a := hn (k, b) (by simp)
    simp only [Memory.wfFrom, Bool.and_eq_true, decide_eq_true_eq] at h
    by_cases hk : a < k
    · simp only [Memory.insert, hk, if_true, Memory.wfFrom, Bool.and_eq_true, decide_eq_true_eq, bne_iff_ne]
      exact ⟨⟨⟨hlo, ha⟩, hv⟩, ⟨⟨by omega, h.1.1.2⟩, by simpa using h.1.2⟩, h.2⟩
    · simp only [Memory.insert, hk, if_false, Memory.wfFrom, Bool.and_eq_true, decide_eq_true_eq]
      exact ⟨⟨⟨h.1.1.1, h.1.1.2⟩, h.1.2⟩, ih h.2 (by omega) fun c hc => hn c (by simp [hc])⟩

theorem Memory.mem_erase {m : Memory} {a : Nat} : ∀ c ∈ m.erase a, c.1 ≠ a := by
  induction m with
  | nil => simp [Memory.erase]
  | cons c m ih =>
    obtain ⟨k, b⟩ := c
    by_cases hk : k = a
    · simpa [Memory.erase, hk] using ih
    · intro c hc
      simp only [Memory.erase, hk, if_false, List.mem_cons] at hc
      rcases hc with rfl | hc
      · exact hk
      · exact ih c hc

/-- A write keeps the canonical form. -/
theorem Memory.wf_write {m : Memory} {a : Nat} (v : Byte) (h : m.wf = true) (ha : a < 2 ^ 32) :
    (m.write a v).wf = true := by
  unfold Memory.write
  split
  · exact Memory.wfFrom_erase a h
  · rename_i hv
    exact Memory.wfFrom_insert (Memory.wfFrom_erase a h) (Nat.zero_le a) ha hv Memory.mem_erase

theorem setByte_wf (s : State) (a : Word) (v : Byte) (h : s.mem.wf = true) : (setByte s a v).mem.wf = true :=
  Memory.wf_write v h a.isLt

theorem setHalf_wf (s : State) (a : Word) (v : Half) (h : s.mem.wf = true) : (setHalf s a v).mem.wf = true := by
  unfold setHalf
  dsimp only
  split <;> exact setByte_wf _ _ _ (setByte_wf _ _ _ h)

theorem setWord_wf (s : State) (a v : Word) (h : s.mem.wf = true) : (setWord s a v).mem.wf = true := by
  unfold setWord
  dsimp only
  split <;> exact setByte_wf _ _ _ (setByte_wf _ _ _ (setByte_wf _ _ _ (setByte_wf _ _ _ h)))

/-- A byte read after a byte write to the same address. -/
@[simp] theorem byteAt_setByte_same (s : State) (a : Word) (v : Byte) : byteAt (setByte s a v) a = v :=
  Memory.read_write_same _ _ _

/-- A byte read after a byte write to another address. -/
theorem byteAt_setByte_other (s : State) {a x : Word} (v : Byte) (h : x ≠ a) :
    byteAt (setByte s a v) x = byteAt s x :=
  Memory.read_write_other _ _ fun e => h (BitVec.eq_of_toNat_eq e)

/-- Both at once. -/
theorem byteAt_setByte (s : State) (a x : Word) (v : Byte) :
    byteAt (setByte s a v) x = if x = a then v else byteAt s x := by
  split
  · rename_i h; subst h; simp
  · rename_i h; exact byteAt_setByte_other s v h

end Sys2Proof.Machine
end

