-- ==== Sys2Proof/Laws/Ops.lean ====
section
/-! SUPPORT. For each shared operation one lemma that says all it can do. -/

namespace Sys2Proof.Machine

/-! ### Outcomes -/

theorem refuseIf_eq_next {b : Bool} {r : Refusal} {k : Result} {t : State} :
    refuseIf b r k = .next t ↔ b = false ∧ k = .next t := by
  cases b <;> simp [refuseIf]

@[simp] theorem refuseIf_false (r : Refusal) (k : Result) : refuseIf false r k = k := rfl

@[simp] theorem refuseIf_true (r : Refusal) (k : Result) : refuseIf true r k = .refused r := rfl

theorem whenPassed_pass {c : Cond} {s : State} {k : Result} (h : conditionPassed c s.cpsr = true) :
    whenPassed c s k = k := by
  simp [whenPassed, h]

theorem whenPassed_fail {c : Cond} {s : State} {k : Result} (h : conditionPassed c s.cpsr = false) :
    whenPassed c s k = advance s := by
  simp [whenPassed, h]

theorem advance_eq_next {s t : State} :
    advance s = .next t ↔ (is26 s.cpsr.mode && s.pc == 0x03FFFFFC) = false ∧ t = { s with pc := s.pc + 4, nextFetch := .sequential } := by
  unfold advance
  cases h : (is26 s.cpsr.mode && s.pc == 0x03FFFFFC)
  · simp only [Bool.false_eq_true, if_false, Host.Outcome.next.injEq, true_and]
    exact eq_comm
  · simp only [if_true, reduceCtorEq, Bool.true_eq_false, false_and]

theorem writeResult_eq_next {s t : State} {rd : RegNo} {v : Word} :
    writeResult s rd v = .next t ↔
      (rd = 15 ∧ t = branchTo s v) ∨ (rd ≠ 15 ∧ advance (writeReg s rd v) = .next t) := by
  unfold writeResult
  split
  · rename_i h; simp only [Host.Outcome.next.injEq, h, true_and, ne_eq, not_true_eq_false, false_and, or_false]
    exact eq_comm
  · rename_i h; simp only [ne_eq, h, false_and, not_false_eq_true, true_and, false_or]

theorem returnFromException_eq_next {s t : State} {target : Word} {r : Refusal} :
    returnFromException s target r = .next t ↔
      ∃ p q, currentSpsr s = some p ∧ psrToCpsr p = some q ∧ enters26Outside s q.mode = false
        ∧ t = branchTo { s with cpsr := q } target := by
  unfold returnFromException
  split
  · rename_i h; simp [h]
  · rename_i p h
    split
    · rename_i h2; simp [h, h2]
    · rename_i q h2; rw [refuseIf_eq_next]; simp [h, h2, @eq_comm State t]

/-! ### Registers -/

theorem getBanked_setBanked (r : Banked) (a b : Bank) (v : Word) :
    getBanked (setBanked r a v) b = if b = a then v else getBanked r b := by
  cases a <;> cases b <;> rfl

@[simp] theorem getPhys_setPhys_same (s : State) (p : PhysReg) (v : Word) : getPhys (setPhys s p v) p = v := by
  cases p <;> simp [setPhys, getPhys, getBanked_setBanked]

theorem getPhys_setPhys_other (s : State) {p q : PhysReg} (v : Word) (h : q ≠ p) :
    getPhys (setPhys s p v) q = getPhys s q := by
  cases p <;> cases q <;> simp_all [setPhys, getPhys, getBanked_setBanked, Vector.getElem_set]
  all_goals (intro h2; exact absurd (Fin.ext h2.symm) h)

theorem getPhys_setPhys (s : State) (p q : PhysReg) (v : Word) :
    getPhys (setPhys s p v) q = if q = p then v else getPhys s q := by
  split
  · rename_i h; subst h; simp
  · rename_i h; exact getPhys_setPhys_other s v h

/-- The general registers are read from `regs` alone. -/
theorem getPhys_congr {s t : State} (h : t.regs = s.regs) (p : PhysReg) : getPhys t p = getPhys s p := by
  cases p <;> simp [getPhys, h]

@[simp] theorem physReg_fifteen (m : Mode) : physReg m 15#4 = none := rfl

theorem physReg_isSome (m : Mode) {i : RegNo} (h : i ≠ 15) : ∃ p, physReg m i = some p := by
  unfold physReg
  have hi : i.toNat ≠ 15 := fun e => h (BitVec.eq_of_toNat_eq e)
  have hl := i.isLt
  split
  · exact ⟨_, rfl⟩
  · split
    · split <;> exact ⟨_, rfl⟩
    · split
      · exact ⟨_, rfl⟩
      · split
        · exact ⟨_, rfl⟩
        · omega

/-- Two register numbers of one mode name different registers (R33). -/
theorem physReg_inj {m : Mode} {i j : RegNo} {p : PhysReg} (hi : physReg m i = some p) (hj : physReg m j = some p) :
    i = j := by
  have li := i.isLt
  have lj := j.isLt
  apply BitVec.eq_of_toNat_eq
  unfold physReg at hi hj
  split at hi <;> (try split at hi) <;> (try split at hi) <;> (try split at hi) <;>
    split at hj <;> (try split at hj) <;> (try split at hj) <;> (try split at hj) <;>
    simp_all <;> (subst hi; simp_all; try omega)

theorem readReg_of_phys {s : State} {i : RegNo} {p : PhysReg} (q : Port) (h : physReg s.cpsr.mode i = some p)
    (hz : hazardNow s = false) : readReg s q i = getPhys s p := by
  simp [readReg, h, hz]

@[simp] theorem readReg_fifteen (s : State) (q : Port) : readReg s q 15#4 = s.pc + 8 := by
  simp [readReg, pcOperand]

theorem writeReg_of_phys {s : State} {i : RegNo} {p : PhysReg} (v : Word) (h : physReg s.cpsr.mode i = some p) :
    writeReg s i v = setPhys s p v := by
  simp [writeReg, h]

/-! ### Status registers -/

theorem getSpsr_setSpsr (s : State) {a b : Bank} (p : Psr) (ha : a ≠ .usr) :
    getSpsr (setSpsr s a p) b = if b = a then some p else getSpsr s b := by
  cases a <;> cases b <;> simp_all [getSpsr, setSpsr]

theorem getSpsr_congr {s t : State} (h : t.spsr = s.spsr) (b : Bank) : getSpsr t b = getSpsr s b := by
  cases b <;> simp [getSpsr, h]

@[simp] theorem modeOfBits_modeBits (m : Mode) : modeOfBits (modeBits m) = some m := by cases m <;> rfl

@[simp] theorem psrToCpsr_cpsrToPsr (p : Cpsr) : psrToCpsr (cpsrToPsr p) = some p := by
  simp [psrToCpsr, cpsrToPsr]

/-! ### Memory -/

theorem loadWord_eq_some {s : State} {k : RequestKind} {pr : Bool} {a w : Word} :
    loadWord s k pr a = some w ↔ requestAborts s k pr a = false ∧ w = wordAt s a := by
  unfold loadWord
  split
  · rename_i h; simp only [reduceCtorEq, h, Bool.true_eq_false, false_and]
  · rename_i h
    simp only [Option.some.injEq, h, true_and]
    exact eq_comm

theorem loadByte_eq_some {s : State} {k : RequestKind} {pr : Bool} {a : Word} {b : Byte} :
    loadByte s k pr a = some b ↔ requestAborts s k pr a = false ∧ b = byteAt s a := by
  unfold loadByte
  split
  · rename_i h; simp only [reduceCtorEq, h, Bool.true_eq_false, false_and]
  · rename_i h
    simp only [Option.some.injEq, h, true_and]
    exact eq_comm

theorem storeWord_eq_some {s t : State} {k : RequestKind} {pr : Bool} {a v : Word} :
    storeWord s k pr a v = some t ↔ requestAborts s k pr a = false ∧ t = markStale (setWord s a v) a := by
  unfold storeWord
  split
  · rename_i h; simp only [reduceCtorEq, h, Bool.true_eq_false, false_and]
  · rename_i h
    simp only [Option.some.injEq, h, true_and]
    exact eq_comm

theorem storeByte_eq_some {s t : State} {k : RequestKind} {pr : Bool} {a : Word} {v : Byte} :
    storeByte s k pr a v = some t ↔ requestAborts s k pr a = false ∧ t = markStale (setByte s a v) a := by
  unfold storeByte
  split
  · rename_i h; simp only [reduceCtorEq, h, Bool.true_eq_false, false_and]
  · rename_i h
    simp only [Option.some.injEq, h, true_and]
    exact eq_comm

theorem storeHalf_eq_some {s t : State} {a : Word} {v : Half} :
    storeHalf s a v = some t ↔
      requestAborts s .storeH (privileged s) a = false ∧ t = markStale (setHalf s a v) a := by
  unfold storeHalf
  split
  · rename_i h; simp only [reduceCtorEq, h, Bool.true_eq_false, false_and]
  · rename_i h
    simp only [Option.some.injEq, h, true_and]
    exact eq_comm

/-- Bytes are read from `mem` alone. -/
theorem byteAt_congr {s t : State} (h : t.mem = s.mem) (a : Word) : byteAt t a = byteAt s a := by
  simp [byteAt, h]

theorem wordAt_congr {s t : State} (h : t.mem = s.mem) (hb : t.bigend = s.bigend) (a : Word) :
    wordAt t a = wordAt s a := by
  simp [wordAt, byteAt, h, hb]

end Sys2Proof.Machine
end

