-- ==== Sys2Proof/Laws/Registers.lean ====
section
/-! SUPPORT. The general registers as a function of `regs` alone: what a register holds after any chain of updates. -/

namespace Sys2Proof.Machine

/-- A physical register of a register file. -/
def RegFile.read (f : RegFile) : PhysReg → Word
  | .low k => f.low[k]
  | .mid k => f.mid[k]
  | .midFiq k => f.midFiq[k]
  | .r13 b => getBanked f.r13 b
  | .r14 b => getBanked f.r14 b

/-- A physical register of a register file written. -/
def RegFile.write (f : RegFile) (p : PhysReg) (v : Word) : RegFile :=
  match p with
  | .low k => { f with low := f.low.set k v }
  | .mid k => { f with mid := f.mid.set k v }
  | .midFiq k => { f with midFiq := f.midFiq.set k v }
  | .r13 b => { f with r13 := setBanked f.r13 b v }
  | .r14 b => { f with r14 := setBanked f.r14 b v }

theorem getPhys_eq_read (s : State) (p : PhysReg) : getPhys s p = s.regs.read p := by cases p <;> rfl

@[simp] theorem setPhys_regs (s : State) (p : PhysReg) (v : Word) : (setPhys s p v).regs = s.regs.write p v := by
  cases p <;> rfl

theorem RegFile.read_write (f : RegFile) (p q : PhysReg) (v : Word) :
    (f.write p v).read q = if q = p then v else f.read q := by
  have h := getPhys_setPhys { State.reset with regs := f } p q v
  simpa only [getPhys_eq_read, setPhys_regs] using h

@[simp] theorem RegFile.read_write_same (f : RegFile) (p : PhysReg) (v : Word) : (f.write p v).read p = v := by
  simp [RegFile.read_write]

theorem RegFile.read_write_other (f : RegFile) {p q : PhysReg} (v : Word) (h : q ≠ p) :
    (f.write p v).read q = f.read q := by
  simp [RegFile.read_write, h]

/-- A write of a register number is the write of the physical register it names. -/
theorem writeReg_regs {s : State} {i : RegNo} {p : PhysReg} (v : Word) (h : physReg s.cpsr.mode i = some p) :
    (writeReg s i v).regs = s.regs.write p v := by
  rw [writeReg_of_phys v h, setPhys_regs]

/-- The advance to the next instruction, where the spec lets it happen. -/
theorem advance_of_fits {s : State} (h : ¬ (is26 s.cpsr.mode = true ∧ s.pc = 0x03FFFFFC)) :
    advance s = .next { s with pc := s.pc + 4, nextFetch := .sequential } := by
  rw [advance_eq_next]
  refine ⟨?_, rfl⟩
  rw [Bool.eq_false_iff]
  intro e
  simp only [Bool.and_eq_true, beq_iff_eq] at e
  exact h e

end Sys2Proof.Machine
end

