-- ==== Sys2Proof/Laws/Blocks.lean ====
section
/-! SUPPORT. The reads and the writes of a block transfer: all they do when no transfer aborts, and when one does. -/

namespace Sys2Proof.Machine

/-- The memory oracle looks at the abort map and the mode alone. -/
theorem requestAborts_congr {s t : State} (ha : t.abortMap = s.abortMap) (hc : t.cpsr = s.cpsr) (k : RequestKind)
    (p : Bool) (a : Word) : requestAborts t k p a = requestAborts s k p a := by
  simp only [requestAborts, ha, hc]

theorem block_next (a : Word) (k : Nat) : a + 4 + BitVec.ofNat 32 (4 * k) = a + BitVec.ofNat 32 (4 * (k + 1)) := by
  bv_omega

/-- The words a block load reads when no read aborts, each with its register. -/
def blockWords (s : State) : Word → List RegNo → List (RegNo × Word)
  | _, [] => []
  | a, r :: rs => (r, wordAt s a) :: blockWords s (a + 4) rs

@[simp] theorem blockWords_length (s : State) (a : Word) (l : List RegNo) : (blockWords s a l).length = l.length := by
  induction l generalizing a with
  | nil => rfl
  | cons r l ih => simp [blockWords, ih]

theorem blockWords_getElem? (s : State) (a : Word) (l : List RegNo) (k : Nat) :
    (blockWords s a l)[k]? = l[k]?.map fun r => (r, wordAt s (a + BitVec.ofNat 32 (4 * k))) := by
  induction l generalizing a k with
  | nil => rfl
  | cons r l ih =>
    cases k with
    | zero => simp [blockWords]
    | succ k => simp only [blockWords, List.getElem?_cons_succ, ih, block_next]

/-- Transfer `k` of a block load of `n` words from `a` is answered with an abort; `first` says that no transfer of the
block came before. -/
def blockReadAborts (s : State) (first : Bool) (a : Word) (n k : Nat) : Bool :=
  requestAborts s (blockLoadKind (first && k == 0) (k + 1 == n)) (privileged s) (a + BitVec.ofNat 32 (4 * k))

/-- Transfer `k` of a block store of `n` words to `a` is answered with an abort. -/
def blockWriteAborts (s : State) (first : Bool) (a : Word) (n k : Nat) : Bool :=
  requestAborts s (blockStoreKind (first && k == 0) (k + 1 == n)) (privileged s) (a + BitVec.ofNat 32 (4 * k))

theorem blockReadAborts_zero (s : State) (first : Bool) (a : Word) (r : RegNo) (l : List RegNo) :
    blockReadAborts s first a (r :: l).length 0
      = requestAborts s (blockLoadKind first l.isEmpty) (privileged s) a := by
  cases l <;> simp [blockReadAborts]

theorem blockReadAborts_succ (s : State) (first : Bool) (a : Word) (r : RegNo) (l : List RegNo) (k : Nat) :
    blockReadAborts s first a (r :: l).length (k + 1) = blockReadAborts s false (a + 4) l.length k := by
  rw [blockReadAborts, blockReadAborts, block_next]
  simp

theorem blockWriteAborts_zero (s : State) (first : Bool) (a v : Word) (l : List Word) :
    blockWriteAborts s first a (v :: l).length 0
      = requestAborts s (blockStoreKind first l.isEmpty) (privileged s) a := by
  cases l <;> simp [blockWriteAborts]

theorem blockWriteAborts_succ (s : State) (first : Bool) (a v : Word) (l : List Word) (k : Nat) :
    blockWriteAborts s first a (v :: l).length (k + 1) = blockWriteAborts s false (a + 4) l.length k := by
  rw [blockWriteAborts, blockWriteAborts, block_next]
  simp

/-- The reads of a block load in which none aborts. -/
theorem readBlock_clear (s : State) (first : Bool) (a : Word) (l : List RegNo)
    (h : ∀ k < l.length, blockReadAborts s first a l.length k = false) :
    readBlock s first a l = { loaded := blockWords s a l, aborted := false } := by
  induction l generalizing first a with
  | nil => rfl
  | cons r l ih =>
    have h0 := h 0 (by simp)
    rw [blockReadAborts_zero] at h0
    have hr := ih false (a + 4) fun k hk => by
      rw [← blockReadAborts_succ s first a r l k]; exact h (k + 1) (by simp; omega)
    simp only [readBlock, loadWord, h0, Bool.false_eq_true, if_false, hr, blockWords]

/-- The reads of a block load up to the first that aborts. -/
theorem readBlock_abort (s : State) (first : Bool) (a : Word) (l : List RegNo) (j : Nat) (hj : j < l.length)
    (ha : blockReadAborts s first a l.length j = true)
    (h : ∀ k < j, blockReadAborts s first a l.length k = false) :
    readBlock s first a l = { loaded := (blockWords s a l).take j, aborted := true } := by
  induction l generalizing first a j with
  | nil => simp at hj
  | cons r l ih =>
    cases j with
    | zero =>
      rw [blockReadAborts_zero] at ha
      simp [readBlock, loadWord, ha]
    | succ j =>
      have h0 := h 0 (by omega)
      rw [blockReadAborts_zero] at h0
      rw [blockReadAborts_succ] at ha
      have hr := ih false (a + 4) j (by simpa using hj) ha fun k hk => by
        rw [← blockReadAborts_succ s first a r l k]; exact h (k + 1) (by omega)
      simp only [readBlock, loadWord, h0, Bool.false_eq_true, if_false, hr, blockWords, List.take_succ_cons]

/-- The state after the writes of a block store in which none aborts. -/
def storeBlock : State → Word → List Word → State
  | s, _, [] => s
  | s, a, v :: vs => storeBlock (markStale (setWord s a v) a) (a + 4) vs

theorem blockWriteAborts_congr {s t : State} (ha : t.abortMap = s.abortMap) (hc : t.cpsr = s.cpsr) (first : Bool)
    (a : Word) (n k : Nat) : blockWriteAborts t first a n k = blockWriteAborts s first a n k := by
  simp only [blockWriteAborts, requestAborts_congr ha hc, privileged, hc]

/-- The writes of a block store in which none aborts. -/
theorem writeBlock_clear (s : State) (first : Bool) (a : Word) (l : List Word)
    (h : ∀ k < l.length, blockWriteAborts s first a l.length k = false) :
    writeBlock s first a l = { state := storeBlock s a l, aborted := false } := by
  induction l generalizing s first a with
  | nil => rfl
  | cons v l ih =>
    have h0 := h 0 (by simp)
    rw [blockWriteAborts_zero] at h0
    simp only [writeBlock, storeWord, h0, Bool.false_eq_true, if_false, storeBlock]
    refine ih _ false (a + 4) fun k hk => ?_
    rw [blockWriteAborts_congr (s := s) (by simp) (by simp), ← blockWriteAborts_succ s first a v l k]
    exact h (k + 1) (by simp; omega)

/-- The writes of a block store up to the first that aborts. -/
theorem writeBlock_abort (s : State) (first : Bool) (a : Word) (l : List Word) (j : Nat) (hj : j < l.length)
    (ha : blockWriteAborts s first a l.length j = true)
    (h : ∀ k < j, blockWriteAborts s first a l.length k = false) :
    writeBlock s first a l = { state := storeBlock s a (l.take j), aborted := true } := by
  induction l generalizing s first a j with
  | nil => simp at hj
  | cons v l ih =>
    cases j with
    | zero =>
      rw [blockWriteAborts_zero] at ha
      simp [writeBlock, storeWord, ha, storeBlock]
    | succ j =>
      have h0 := h 0 (by omega)
      rw [blockWriteAborts_zero] at h0
      rw [blockWriteAborts_succ] at ha
      simp only [writeBlock, storeWord, h0, Bool.false_eq_true, if_false, List.take_succ_cons, storeBlock]
      refine ih _ false (a + 4) j (by simpa using hj) ?_ fun k hk => ?_
      · rw [blockWriteAborts_congr (s := s) (by simp) (by simp)]; exact ha
      · rw [blockWriteAborts_congr (s := s) (by simp) (by simp), ← blockWriteAborts_succ s first a v l k]
        exact h (k + 1) (by omega)

/-- The writes of a block store change memory and the stale set alone. -/
theorem storeBlock_eq (s : State) (a : Word) (l : List Word) :
    storeBlock s a l = { s with mem := (storeBlock s a l).mem, stale := (storeBlock s a l).stale } := by
  induction l generalizing s a with
  | nil => rfl
  | cons v l ih =>
    rw [storeBlock, ih]
    have hm : ∀ b w, setWord s b w = { s with mem := (setWord s b w).mem } := by
      intro b w; unfold setWord; dsimp only; split <;> rfl
    rw [hm]
    rfl

/-- The stale set after one mark. -/
theorem mem_insertStale (a x : Nat) (l : List Nat) : x ∈ insertStale a l ↔ x = a ∨ x ∈ l := by
  induction l with
  | nil => simp [insertStale]
  | cons k l ih =>
    unfold insertStale
    split
    · simp
    · split
      · rename_i h; subst h; simp
      · simp only [List.mem_cons, ih]
        constructor <;> rintro (h | h | h) <;> simp [h]

end Sys2Proof.Machine
end

