-- ==== Sys2Proof/Laws/Cycle.lean ====
section
/-! SUPPORT. The instruction cycle: what each of its parts can answer. -/

namespace Sys2Proof.Machine

/-- An aborted fetch is one of the four fetch requests. -/
theorem fetchAborts_eq_true {s : State} (h : fetchAborts s = true) :
    ∃ k ∈ fetchKinds, requestAborts s k (privileged s) s.pc = true := by
  unfold fetchAborts fetchRequest at h
  cases hn : s.nextFetch <;> cases hb : Config.freeBit s.tick .speculativeFetch <;> simp only [hn, hb] at h <;>
    first | exact ⟨_, by decide, h⟩ | exact absurd h (by decide)

/-- A held instruction is not fetched again. -/
theorem fetchAborts_held {s : State} (h : s.nextFetch = .held) : fetchAborts s = false := by
  simp only [fetchAborts, fetchRequest, h]

/-- Without abort regions no fetch aborts. -/
theorem fetchAborts_of_no_regions {s : State} (h : s.abortMap = []) : fetchAborts s = false := by
  cases hf : fetchAborts s with
  | false => rfl
  | true =>
    obtain ⟨k, -, hk⟩ := fetchAborts_eq_true hf
    simp [requestAborts, h] at hk

/-- Everything a step before the sampling of the pins can do. -/
theorem runInstruction_eq_next {s t : State} :
    runInstruction s = .next t ↔ (fetchAborts s = true ∧ t = takePrefetchAbort s)
      ∨ (fetchAborts s = false ∧ fetchStale s = false ∧ execDecoded (decode (fetchWord s)) s = .next t) := by
  unfold runInstruction
  generalize execDecoded (decode (fetchWord s)) s = r
  generalize takePrefetchAbort s = u
  cases fetchAborts s <;> cases fetchStale s <;> simp [eq_comm]

/-- Everything a decoded instruction can do. -/
theorem execDecoded_instr_eq_next {i : Instr} {s t : State} :
    execDecoded (.instr i) s = .next t ↔
      (s.pc ∈ s.imbOwed → isExecutedSwi i s = true) ∧ ∃ u, exec i s = .next u ∧ t = expireImb s u := by
  have h : (s.pc ∈ s.imbOwed → isExecutedSwi i s = true) ↔ ¬ (s.imbOwed.contains s.pc && !isExecutedSwi i s) = true := by
    cases isExecutedSwi i s <;> simp
  rw [h]
  simp only [execDecoded]
  generalize exec i s = r
  split
  · simp_all
  · rename_i hc
    refine Iff.trans ?_ (Iff.symm (and_iff_right hc))
    cases r
    · simp only [expireImbOutcome, Host.Outcome.next.injEq, exists_eq_left']
      exact eq_comm
    · simp only [expireImbOutcome, reduceCtorEq, false_and, exists_false]
    · simp only [expireImbOutcome, reduceCtorEq, false_and, exists_false]

/-- Everything a step can do. -/
theorem cycle_eq_next {s t : State} :
    cycle s = .next t ↔ (s.inReset = true ∧ t = resetStep s)
      ∨ (s.inReset = false ∧ ∃ u, runInstruction s = .next u ∧ t = endStep s u) := by
  unfold cycle
  cases s.inReset <;> cases runInstruction s <;> simp [eq_comm]

end Sys2Proof.Machine
end

