-- ==== Sys2Proof/Laws/Decode.lean ====
section
/-! SUPPORT. Fields, bits and places of a word: what a proof about the decoder and the encoder cites. -/

namespace Sys2Proof

theorem ofCode_code (c : Cond) : Cond.ofCode c.code = some c := by cases c <;> rfl

theorem shiftType_ofCode_code (t : ShiftType) : ShiftType.ofCode t.code = t := by cases t <;> rfl

theorem field_or (a b : Word) (lo len : Nat) : field (a ||| b) lo len = field a lo len ||| field b lo len := by
  apply BitVec.eq_of_getLsbD_eq
  intro k hk
  simp [field, hk]

theorem bit_or (a b : Word) (k : Nat) : bit (a ||| b) k = (bit a k || bit b k) := by simp [bit]

theorem bit_place {n : Nat} (v : BitVec n) (lo k : Nat) :
    bit (place v lo) k = (decide (k < 32) && decide (lo ≤ k) && v.getLsbD (k - lo)) := by
  simp only [bit, place, BitVec.getLsbD_shiftLeft, BitVec.getLsbD_setWidth]
  by_cases h : k < 32 <;> by_cases h2 : lo ≤ k <;> simp [h, h2]
  rw [show decide (k < lo) = false by simpa using h2, show decide (k - lo < 32) = true by simp; omega]
  simp

theorem field_place_same {n : Nat} (v : BitVec n) (lo : Nat) (h : lo + n ≤ 32) : field (place v lo) lo n = v := by
  apply BitVec.eq_of_getLsbD_eq
  intro k hk
  simp [field, place, hk, show lo + k < 32 by omega]

theorem field_place_disjoint {n : Nat} (v : BitVec n) (p lo len : Nat) (h : lo + len ≤ p ∨ p + n ≤ lo) :
    field (place v p) lo len = 0 := by
  apply BitVec.eq_of_getLsbD_eq
  intro k hk
  simp [field, place, BitVec.getLsbD_shiftLeft, hk]
  intros
  apply BitVec.getLsbD_of_ge
  omega

theorem field_place_inner {n : Nat} (v : BitVec n) (p lo len : Nat) (h : p ≤ lo ∧ lo + len ≤ p + n ∧ lo + len ≤ 32) :
    field (place v p) lo len = v.extractLsb' (lo - p) len := by
  apply BitVec.eq_of_getLsbD_eq
  intro k hk
  simp [field, place, hk, show ¬ (lo + k < p) by omega, show lo + k < 32 by omega]
  congr 1
  omega

theorem halves_append (v : BitVec 8) : (v.extractLsb' 4 4 ++ v.extractLsb' 0 4 : BitVec 8) = v := by
  apply BitVec.eq_of_getLsbD_eq
  intro k hk
  rw [BitVec.getLsbD_append]
  by_cases h : k < 4
  · simp [h]
  · simp [h, show k - 4 < 4 by omega, show 4 + (k - 4) = k by omega]

end Sys2Proof
end

