-- ==== Sys2Proof/Laws/Meanings.lean ====
section
/-! SUPPORT. For each operation that several instructions share one lemma that says when it answers a next state, and
which one. -/

namespace Sys2Proof.Machine

/-! ### Data processing -/

theorem finishAlu_eq_next {op : AluOp} {sb : Bool} {rd : RegNo} {r : AluResult} {s t : State} :
    finishAlu op sb rd r s = .next t ↔
      (op.isTest = true ∧ rd = 15 ∧ is26 s.cpsr.mode = true ∧ advance (setPsr26 s r.value) = .next t)
      ∨ (op.isTest = true ∧ rd ≠ 15 ∧ advance (setAluFlags s r) = .next t)
      ∨ (op.isTest = false ∧ rd = 15 ∧ sb = true ∧ is26 s.cpsr.mode = true
          ∧ t = branchTo (setPsr26 s r.value) r.value)
      ∨ (op.isTest = false ∧ rd = 15 ∧ sb = true ∧ is26 s.cpsr.mode = false
          ∧ returnFromException s r.value .returnWithoutSpsr = .next t)
      ∨ (op.isTest = false ∧ rd = 15 ∧ sb = false ∧ t = branchTo s r.value)
      ∨ (op.isTest = false ∧ rd ≠ 15 ∧ sb = true ∧ advance (writeReg (setAluFlags s r) rd r.value) = .next t)
      ∨ (op.isTest = false ∧ rd ≠ 15 ∧ sb = false ∧ advance (writeReg s rd r.value) = .next t) := by
  unfold finishAlu
  by_cases hr : rd = 15#4 <;> cases op.isTest <;> cases sb <;> cases is26 s.cpsr.mode <;> simp [hr] <;> exact eq_comm

theorem aluImm_eq_next {op : AluOp} {sb : Bool} {rn rd : RegNo} {rotate : BitVec 4} {imm : BitVec 8} {s t : State} :
    aluImm op sb rn rd rotate imm s = .next t ↔
      readsPc26 s (readsRn15 op rn) = false
        ∧ dataProcessing op sb rn rd (immediateOperand rotate imm s.cpsr.c) s = .next t := refuseIf_eq_next

theorem aluShiftImm_eq_next {op : AluOp} {sb : Bool} {rn rd rm : RegNo} {amount : BitVec 5} {ty : ShiftType}
    {s t : State} :
    aluShiftImm op sb rn rd amount ty rm s = .next t ↔
      readsPc26 s (readsRn15 op rn || rm == 15) = false
        ∧ dataProcessing op sb rn rd (shiftByImmediate ty (readReg s .m rm) amount.toNat s.cpsr.c) s = .next t :=
  refuseIf_eq_next

theorem aluShiftReg_eq_next {op : AluOp} {sb : Bool} {rn rd rs rm : RegNo} {ty : ShiftType} {s t : State} :
    aluShiftReg op sb rn rd rs ty rm s = .next t ↔
      (rs == 15 || rm == 15 || readsRn15 op rn) = false
        ∧ dataProcessing op sb rn rd
            (shiftByRegister ty (readReg s .m rm) ((readReg s .s rs).extractLsb' 0 8).toNat s.cpsr.c) s = .next t :=
  refuseIf_eq_next

/-! ### Status registers and multiplies -/

theorem moveFromPsr_eq_next {rd : RegNo} {p : Option Psr} {s t : State} :
    moveFromPsr rd p s = .next t ↔
      (rd == 15) = false
        ∧ ∃ q, p = some q ∧ advance (writeReg s rd (psrWord q (Config.freeWord s.tick .psrReserved))) = .next t := by
  unfold moveFromPsr
  rw [refuseIf_eq_next]
  cases p <;> simp

theorem writeControl_eq_next {v : Word} {s t : State} :
    writeControl v s = .next t ↔
      ∃ m, modeOfBits (field v 0 5) = some m
        ∧ enters26Outside s m = false
        ∧ advance { s with
            cpsr := { s.cpsr with i := v.getLsbD 7, f := v.getLsbD 6, mode := m }
            imbOwed := if (is26 m != is26 s.cpsr.mode) && s.imbReturn != some s.pc then (s.pc + 4) :: s.imbOwed
              else s.imbOwed } = .next t := by
  unfold writeControl
  cases modeOfBits (field v 0 5) with
  | none => simp
  | some m =>
    simp only [Option.some.injEq, exists_eq_left']
    exact refuseIf_eq_next

theorem moveToSpsr_eq_next {mask : FieldMask} {v : Word} {s t : State} :
    moveToSpsr mask v s = .next t ↔
      ∃ p, currentSpsr s = some p
        ∧ advance (setSpsr s (modeBank s.cpsr.mode) (maskedPsr mask v p)) = .next t := by
  unfold moveToSpsr
  cases currentSpsr s <;> simp

theorem multiplyLong_eq_next {signed acc sb : Bool} {rdHi rdLo rs rm : RegNo} {s t : State} :
    multiplyLong signed acc sb rdHi rdLo rs rm s = .next t ↔
      (rdHi == 15 || rdLo == 15 || rs == 15 || rm == 15 || rdHi == rdLo || rdHi == rm || rdLo == rm) = false
        ∧ (let r := longProduct signed (readReg s .m rm) (readReg s .s rs)
            + (if acc then readReg s .n rdHi ++ readReg s .d rdLo else 0)
          advance (writeReg (writeReg (if sb then setLongMultiplyFlags s r else s) rdLo (r.extractLsb' 0 32)) rdHi
            (r.extractLsb' 32 32))) = .next t := refuseIf_eq_next

/-! ### Transfers -/

theorem checkSingle_eq_next {load byte pre wb : Bool} {rn rd : RegNo} {s t : State} {k : Result} :
    checkSingle load byte pre wb rn rd s k = .next t ↔
      (writesBack pre wb && rn == 15) = false ∧ (byte && rd == 15) = false
        ∧ (load && writesBack pre wb && rd == rn) = false
        ∧ readsPc26 s (rn == 15 || (!load && rd == 15)) = false ∧ k = .next t := by
  simp only [checkSingle, refuseIf_eq_next]

theorem checkHalf_eq_next {load pre wb : Bool} {rn rd : RegNo} {s t : State} {k : Result} :
    checkHalf load pre wb rn rd s k = .next t ↔
      (rd == 15) = false ∧ (writesBack pre wb && rn == 15) = false
        ∧ (load && writesBack pre wb && rd == rn) = false ∧ readsPc26 s (rn == 15) = false ∧ k = .next t := by
  simp only [checkHalf, refuseIf_eq_next]

theorem checkOffset_eq_next {pre : Bool} {rn rm : RegNo} {t : State} {k : Result} :
    checkOffset pre rn rm k = .next t ↔ (rm == 15) = false ∧ (!pre && rm == rn) = false ∧ k = .next t := by
  simp only [checkOffset, refuseIf_eq_next]

theorem checkSwap_eq_next {rn rd rm : RegNo} {t : State} {k : Result} :
    checkSwap rn rd rm k = .next t ↔ (rn == 15 || rd == 15 || rm == 15) = false ∧ k = .next t := refuseIf_eq_next

theorem checkBlock_eq_next {rn : RegNo} {list : BitVec 16} {t : State} {k : Result} :
    checkBlock rn list k = .next t ↔ (rn == 15) = false ∧ (list == 0) = false ∧ k = .next t := by
  simp only [checkBlock, refuseIf_eq_next]

theorem loadWordReg_eq_next {priv pre up wb : Bool} {rn rd : RegNo} {off : Word} {s t : State} :
    loadWordReg priv pre up wb rn rd off s = .next t ↔
      checkSingle true false pre wb rn rd s
        (let a := transferAddress pre up (readReg s .n rn) off
        refuseIf (rd == 15 && !wordAligned a) .misalignedPcTransfer
          (if requestAborts s .load priv a then .next (takeDataAbort s)
          else writeResult (writeBack s pre wb rn (indexed up (readReg s .n rn) off)) rd
            (rotateLoaded (wordAt s a) a))) = .next t := by
  simp only [loadWordReg, loadWord]
  cases requestAborts s .load priv (transferAddress pre up (readReg s .n rn) off) <;> exact Iff.rfl

theorem loadByteReg_eq_next {priv pre up wb : Bool} {rn rd : RegNo} {off : Word} {s t : State} :
    loadByteReg priv pre up wb rn rd off s = .next t ↔
      checkSingle true true pre wb rn rd s
        (let a := transferAddress pre up (readReg s .n rn) off
        if requestAborts s .loadB priv a then .next (takeDataAbort s)
        else advance (writeReg (writeBack s pre wb rn (indexed up (readReg s .n rn) off)) rd
          ((byteAt s a).setWidth 32))) = .next t := by
  simp only [loadByteReg, loadByte]
  cases requestAborts s .loadB priv (transferAddress pre up (readReg s .n rn) off) <;> exact Iff.rfl

theorem storeWordReg_eq_next {priv pre up wb : Bool} {rn rd : RegNo} {off : Word} {s t : State} :
    storeWordReg priv pre up wb rn rd off s = .next t ↔
      checkSingle false false pre wb rn rd s
        (let a := transferAddress pre up (readReg s .n rn) off
        refuseIf (rd == 15 && !wordAligned a) .misalignedPcTransfer
          (if requestAborts s .store priv a then .next (takeDataAbort s)
          else advance (writeBack (markStale (setWord s a (storedValue s pre wb rn rd)) a) pre wb rn
            (indexed up (readReg s .n rn) off)))) = .next t := by
  simp only [storeWordReg, storeWord]
  cases requestAborts s .store priv (transferAddress pre up (readReg s .n rn) off) <;> exact Iff.rfl

theorem storeByteReg_eq_next {priv pre up wb : Bool} {rn rd : RegNo} {off : Word} {s t : State} :
    storeByteReg priv pre up wb rn rd off s = .next t ↔
      checkSingle false true pre wb rn rd s
        (let a := transferAddress pre up (readReg s .n rn) off
        if requestAborts s .storeB priv a then .next (takeDataAbort s)
        else advance (writeBack (markStale (setByte s a (field (storedValue s pre wb rn rd) 0 8)) a) pre wb rn
          (indexed up (readReg s .n rn) off))) = .next t := by
  simp only [storeByteReg, storeByte]
  cases requestAborts s .storeB priv (transferAddress pre up (readReg s .n rn) off) <;> exact Iff.rfl

theorem storeHalfReg_eq_next {pre up wb : Bool} {rn rd : RegNo} {off : Word} {s t : State} :
    storeHalfReg pre up wb rn rd off s = .next t ↔
      checkHalf false pre wb rn rd s
        (let a := transferAddress pre up (readReg s .n rn) off
        refuseIf (a.getLsbD 0) .misalignedHalfwordStore
          (if requestAborts s .storeH (privileged s) a then .next (takeDataAbort s)
          else advance (writeBack (markStale (setHalf s a (field (storedValue s pre wb rn rd) 0 16)) a) pre wb rn
            (indexed up (readReg s .n rn) off)))) = .next t := by
  simp only [storeHalfReg, storeHalf]
  cases requestAborts s .storeH (privileged s) (transferAddress pre up (readReg s .n rn) off) <;> exact Iff.rfl

theorem loadExtendedReg_eq_next {pre up wb : Bool} {rn rd : RegNo} {off : Word} {access : Word → Option Word}
    {s t : State} :
    loadExtendedReg pre up wb rn rd off access s = .next t ↔
      (rd == 15) = false ∧ (writesBack pre wb && rn == 15) = false ∧ (writesBack pre wb && rd == rn) = false
        ∧ readsPc26 s (rn == 15) = false
        ∧ ((access (transferAddress pre up (readReg s .n rn) off) = none ∧ t = takeDataAbort s)
          ∨ ∃ v, access (transferAddress pre up (readReg s .n rn) off) = some v
            ∧ advance (writeReg (writeBack s pre wb rn (indexed up (readReg s .n rn) off)) rd v) = .next t) := by
  unfold loadExtendedReg
  rw [checkHalf_eq_next, Bool.true_and]
  dsimp only
  cases access (transferAddress pre up (readReg s .n rn) off) <;> simp [@eq_comm State t]

/-- A block load in which no read aborts. -/
theorem blockLoad_clear {phys : RegNo → Option PhysReg} {pre up : Bool} {rn : RegNo} {list : BitVec 16} {s : State}
    {k : Word → List (RegNo × Word) → Result}
    (h : ∀ i < (registerList list).length, blockReadAborts s true
      (blockStart pre up (readReg s .n rn) (registerList list).length) (registerList list).length i = false) :
    blockLoad phys pre up rn list s k = k (readReg s .n rn)
      (blockWords s (blockStart pre up (readReg s .n rn) (registerList list).length) (registerList list)) := by
  simp only [blockLoad, readBlock_clear s true _ _ h, Bool.false_eq_true, if_false]

/-- A block load whose read `j` is the first that aborts. -/
theorem blockLoad_abort {phys : RegNo → Option PhysReg} {pre up : Bool} {rn : RegNo} {list : BitVec 16} {s : State}
    {k : Word → List (RegNo × Word) → Result} {j : Nat} (hj : j < (registerList list).length)
    (ha : blockReadAborts s true (blockStart pre up (readReg s .n rn) (registerList list).length)
      (registerList list).length j = true)
    (h : ∀ i < j, blockReadAborts s true (blockStart pre up (readReg s .n rn) (registerList list).length)
      (registerList list).length i = false) :
    blockLoad phys pre up rn list s k = .next (takeDataAbort (keepOrLoad phys (physReg s.cpsr.mode rn) s
      ((blockWords s (blockStart pre up (readReg s .n rn) (registerList list).length) (registerList list)).take
        j))) := by
  simp only [blockLoad, readBlock_abort s true _ _ j hj ha h, if_true]

/-- A block store in which no write aborts. -/
theorem blockStore_clear {pre up wb : Bool} {rn : RegNo} {list : BitVec 16} {value : Word → RegNo → Word} {s : State}
    (h : ∀ i < (registerList list).length, blockWriteAborts s true
      (blockStart pre up (readReg s .n rn) (registerList list).length) (registerList list).length i = false) :
    blockStore pre up wb rn list value s =
      (let n := (registerList list).length
      let t := storeBlock s (blockStart pre up (readReg s .n rn) n)
        ((registerList list).map (value (readReg s .n rn)))
      advance (if wb then writeReg t rn (blockWriteBack up (readReg s .n rn) n) else t)) := by
  have hw := writeBlock_clear s true (blockStart pre up (readReg s .n rn) (registerList list).length)
    ((registerList list).map (value (readReg s .n rn))) (by rw [List.length_map]; exact h)
  simp only [blockStore, hw, Bool.false_eq_true, if_false]

/-- A block store whose write `j` is the first that aborts. -/
theorem blockStore_abort {pre up wb : Bool} {rn : RegNo} {list : BitVec 16} {value : Word → RegNo → Word} {s : State}
    {j : Nat} (hj : j < (registerList list).length)
    (ha : blockWriteAborts s true (blockStart pre up (readReg s .n rn) (registerList list).length)
      (registerList list).length j = true)
    (h : ∀ i < j, blockWriteAborts s true (blockStart pre up (readReg s .n rn) (registerList list).length)
      (registerList list).length i = false) :
    blockStore pre up wb rn list value s =
      .next (takeDataAbort (storeBlock s (blockStart pre up (readReg s .n rn) (registerList list).length)
        (((registerList list).map (value (readReg s .n rn))).take j))) := by
  have hw := writeBlock_abort s true (blockStart pre up (readReg s .n rn) (registerList list).length)
    ((registerList list).map (value (readReg s .n rn))) j (by rw [List.length_map]; exact hj)
    (by rw [List.length_map]; exact ha) (by rw [List.length_map]; exact h)
  simp only [blockStore, hw, if_true]

/-- After an aborted block load: nothing but general registers has changed; the base has not; each register named with a
word holds its old value or a word read for it; every other register is as it was. -/
theorem keepOrLoad_effect (phys : RegNo → Option PhysReg) (base : Option PhysReg) (s : State)
    (l : List (RegNo × Word)) :
    keepOrLoad phys base s l = { s with regs := (keepOrLoad phys base s l).regs }
      ∧ (∀ r, some r = base → getPhys (keepOrLoad phys base s l) r = getPhys s r)
      ∧ ∀ r, getPhys (keepOrLoad phys base s l) r = getPhys s r
        ∨ ∃ p ∈ l, phys p.1 = some r ∧ getPhys (keepOrLoad phys base s l) r = p.2 := by
  unfold keepOrLoad
  induction l using List.reverseRecOn with
  | nil => exact ⟨rfl, fun _ _ => rfl, fun _ => .inl rfl⟩
  | append_singleton l p ih =>
    obtain ⟨h1, h2, h3⟩ := ih
    rw [List.foldl_append, List.foldl_cons, List.foldl_nil]
    generalize List.foldl _ s l = u at h1 h2 h3 ⊢
    have keep : ∀ r, getPhys u r = getPhys s r ∨ ∃ q ∈ l ++ [p], phys q.1 = some r ∧ getPhys u r = q.2 := fun r =>
      (h3 r).imp_right fun ⟨q, hq, h⟩ => ⟨q, List.mem_append_left _ hq, h⟩
    split
    · exact ⟨h1, h2, keep⟩
    · rename_i q hq
      split
      · exact ⟨h1, h2, keep⟩
      · rename_i hb
        split
        · refine ⟨?_, fun r hr => ?_, fun r => ?_⟩
          · rw [h1]; cases q <;> rfl
          · rw [getPhys_setPhys_other _ _ (by rintro rfl; exact hb hr), h2 r hr]
          · by_cases e : r = q
            · subst e; exact .inr ⟨p, by simp, hq, by simp⟩
            · rw [getPhys_setPhys_other _ _ e]; exact keep r
        · exact ⟨h1, h2, keep⟩

/-- The loads of a block leave a register that no entry names as it was. -/
theorem writeLoaded_other (s : State) (l : List (RegNo × Word)) (r : PhysReg)
    (h : ∀ p ∈ l, physReg s.cpsr.mode p.1 ≠ some r) : getPhys (writeLoaded writeReg s l) r = getPhys s r := by
  unfold writeLoaded
  induction l generalizing s with
  | nil => rfl
  | cons p l ih =>
    rw [List.foldl_cons, ih _ fun q hq => by rw [writeReg_cpsr]; exact h q (by simp [hq])]
    have hp := h p (by simp)
    unfold writeReg
    split
    · rfl
    · rename_i q hq
      exact getPhys_setPhys_other _ _ (by rintro rfl; exact hp hq)

/-! ### Coprocessors and the undefined classes -/

theorem offer_eq_next {s t : State} {k : Word → State → Result} :
    offer s k = .next t ↔
      (s.coproc = [] ∧ t = takeUndefined s)
      ∨ (∃ rest, s.coproc = ⟨some 0, .bounce⟩ :: rest ∧ t = takeUndefined { s with coproc := rest })
      ∨ (∃ r rest, s.coproc = r :: rest ∧ r.waits ≠ some 0 ∧ t = busyWait r rest s)
      ∨ ∃ d rest, s.coproc = ⟨some 0, .accept d⟩ :: rest ∧ k d { s with coproc := rest } = .next t := by
  unfold offer
  split
  · rename_i h; simp [h, @eq_comm State t]
  · rename_i r rest h
    obtain ⟨w, a⟩ := r
    by_cases hw : w = some 0 <;> cases a <;> simp [h, hw, @eq_comm State t]

theorem offerTransfer_eq_next {cp : BitVec 4} {s t : State} {k : Word → State → Result} :
    offerTransfer cp s k = .next t ↔
      (s.coproc = [] ∧ t = takeUndefined s)
      ∨ (∃ rest, s.coproc = ⟨some 0, .bounce⟩ :: rest ∧ t = takeUndefined { s with coproc := rest })
      ∨ (∃ r rest, s.coproc = r :: rest ∧ r.waits ≠ some 0 ∧ t = busyWait r rest s)
      ∨ ∃ d rest, s.coproc = ⟨some 0, .accept d⟩ :: rest ∧ cp ∈ s.presentCps
          ∧ k d { s with coproc := rest } = .next t := by
  rw [offerTransfer, offer_eq_next]
  simp only [refuseIf_eq_next, Bool.not_eq_false', List.contains_iff_mem]

theorem undefinedBtoE_eq_next {s t : State} :
    undefinedBtoE s = .next t ↔ s.trapClassesBtoE = true ∧ t = takeUndefined s := by
  simp [undefinedBtoE, refuseIf_eq_next, @eq_comm State t]

end Sys2Proof.Machine
end

