-- ==== Sys2Proof/Laws/PerInstr.lean ====
section
/-! SUPPORT. What holds of every instruction, one lemma per constructor of `Instr`: bits 31:28 of its word are the code
of its condition (spec/30_encoding.md R161). -/

namespace Sys2Proof

theorem cond_encodeCond (c : Cond) : field (encodeCond c) 28 4 = c.code := by cases c <;> rfl

theorem cond_encodeBranch (c : Cond) (link : Bool) (offset : BitVec 24) :
    field (encodeBranch c link offset) 28 4 = c.code := by
  simp (disch := omega) [encodeBranch, field_or, field_place_disjoint, cond_encodeCond]

theorem cond_encodeDpImm (c : Cond) (op : BitVec 4) (sb : Bool) (rn rd : RegNo) (rotate : BitVec 4) (imm : BitVec 8) :
    field (encodeDpImm c op sb rn rd rotate imm) 28 4 = c.code := by
  simp (disch := omega) [encodeDpImm, field_or, field_place_disjoint, cond_encodeCond]

theorem cond_encodeDpShiftImm (c : Cond) (op : BitVec 4) (sb : Bool) (rn rd : RegNo) (amount : BitVec 5) (ty :
    ShiftType) (rm : RegNo) :
    field (encodeDpShiftImm c op sb rn rd amount ty rm) 28 4 = c.code := by
  simp (disch := omega) [encodeDpShiftImm, field_or, field_place_disjoint, cond_encodeCond]

theorem cond_encodeDpShiftReg (c : Cond) (op : BitVec 4) (sb : Bool) (rn rd rs : RegNo) (ty : ShiftType) (rm :
    RegNo) :
    field (encodeDpShiftReg c op sb rn rd rs ty rm) 28 4 = c.code := by
  simp (disch := omega) [encodeDpShiftReg, field_or, field_place_disjoint, cond_encodeCond]

theorem cond_encodeMrs (c : Cond) (saved : Bool) (rd : RegNo) :
    field (encodeMrs c saved rd) 28 4 = c.code := by
  simp (disch := omega) [encodeMrs, field_or, field_place_disjoint, cond_encodeCond]

theorem cond_encodeMsrReg (c : Cond) (saved : Bool) (mask : FieldMask) (rm : RegNo) :
    field (encodeMsrReg c saved mask rm) 28 4 = c.code := by
  simp (disch := omega) [encodeMsrReg, encodeMask, field_or, field_place_disjoint, cond_encodeCond]

theorem cond_encodeMsrImm (c : Cond) (saved : Bool) (mask : FieldMask) (rotate : BitVec 4) (imm : BitVec 8) :
    field (encodeMsrImm c saved mask rotate imm) 28 4 = c.code := by
  simp (disch := omega) [encodeMsrImm, encodeMask, field_or, field_place_disjoint, cond_encodeCond]

theorem cond_encodeMultiply (c : Cond) (acc sb : Bool) (rd rn rs rm : RegNo) :
    field (encodeMultiply c acc sb rd rn rs rm) 28 4 = c.code := by
  simp (disch := omega) [encodeMultiply, field_or, field_place_disjoint, cond_encodeCond]

theorem cond_encodeMultiplyLong (c : Cond) (signed acc sb : Bool) (rdHi rdLo rs rm : RegNo) :
    field (encodeMultiplyLong c signed acc sb rdHi rdLo rs rm) 28 4 = c.code := by
  simp (disch := omega) [encodeMultiplyLong, field_or, field_place_disjoint, cond_encodeCond]

theorem cond_encodeSingleImm (c : Cond) (pre up byte wb load : Bool) (rn rd : RegNo) (offset : BitVec 12) :
    field (encodeSingleImm c pre up byte wb load rn rd offset) 28 4 = c.code := by
  simp (disch := omega) [encodeSingleImm, encodeSingle, field_or, field_place_disjoint, cond_encodeCond]

theorem cond_encodeSingleReg (c : Cond) (pre up byte wb load : Bool) (rn rd : RegNo) (amount : BitVec 5) (ty :
    ShiftType) (rm : RegNo) :
    field (encodeSingleReg c pre up byte wb load rn rd amount ty rm) 28 4 = c.code := by
  simp (disch := omega) [encodeSingleReg, encodeSingle, field_or, field_place_disjoint, cond_encodeCond]

theorem cond_encodeHalfImm (c : Cond) (pre up wb load signed half : Bool) (rn rd : RegNo) (offset : BitVec 8) :
    field (encodeHalfImm c pre up wb load signed half rn rd offset) 28 4 = c.code := by
  simp (disch := omega) [encodeHalfImm, encodeHalf, field_or, field_place_disjoint, cond_encodeCond]

theorem cond_encodeHalfReg (c : Cond) (pre up wb load signed half : Bool) (rn rd rm : RegNo) :
    field (encodeHalfReg c pre up wb load signed half rn rd rm) 28 4 = c.code := by
  simp (disch := omega) [encodeHalfReg, encodeHalf, field_or, field_place_disjoint, cond_encodeCond]

theorem cond_encodeBlock (c : Cond) (pre up sBit wb load : Bool) (rn : RegNo) (list : BitVec 16) :
    field (encodeBlock c pre up sBit wb load rn list) 28 4 = c.code := by
  simp (disch := omega) [encodeBlock, field_or, field_place_disjoint, cond_encodeCond]

theorem cond_encodeBlockSplit (c : Cond) (pre up wb : Bool) (rn : RegNo) (pc : Bool) (list : BitVec 15) :
    field (encodeBlockSplit c pre up wb rn pc list) 28 4 = c.code := by
  simp (disch := omega) [encodeBlockSplit, field_or, field_place_disjoint, cond_encodeCond]

theorem cond_encodeSwap (c : Cond) (byte : Bool) (rn rd rm : RegNo) :
    field (encodeSwap c byte rn rd rm) 28 4 = c.code := by
  simp (disch := omega) [encodeSwap, field_or, field_place_disjoint, cond_encodeCond]

theorem cond_encodeSwi (c : Cond) (comment : BitVec 24) :
    field (encodeSwi c comment) 28 4 = c.code := by
  simp (disch := omega) [encodeSwi, field_or, field_place_disjoint, cond_encodeCond]

theorem cond_encodeCdp (c : Cond) (opc crn crd cp : BitVec 4) (info : BitVec 3) (crm : BitVec 4) :
    field (encodeCdp c opc crn crd cp info crm) 28 4 = c.code := by
  simp (disch := omega) [encodeCdp, field_or, field_place_disjoint, cond_encodeCond]

theorem cond_encodeCoprocTransfer (c : Cond) (load pre up long wb : Bool) (rn crd cp : BitVec 4) (offset : BitVec 8) :
    field (encodeCoprocTransfer c load pre up long wb rn crd cp offset) 28 4 = c.code := by
  simp (disch := omega) [encodeCoprocTransfer, field_or, field_place_disjoint, cond_encodeCond]

theorem cond_encodeCoprocRegister (c : Cond) (load : Bool) (opc : BitVec 3) (crn rd cp : BitVec 4) (info : BitVec 3)
    (crm : BitVec 4) :
    field (encodeCoprocRegister c load opc crn rd cp info crm) 28 4 = c.code := by
  simp (disch := omega) [encodeCoprocRegister, field_or, field_place_disjoint, cond_encodeCond]

theorem cond_encodeUndefined (c : Cond) (bits : BitVec 28) :
    field (encodeUndefined c bits) 28 4 = c.code := by
  simp (disch := omega) [encodeUndefined, field_or, field_place_disjoint, cond_encodeCond]

namespace Laws

/-- Bits 31:28 of the word of an instruction are the code of its condition (R161). -/
def CondField.Statement (i : Instr) : Prop := field (encode i) 28 4 = i.cond.code

theorem CondField.b (c : Cond) (offset : BitVec 24) :
    CondField.Statement (.b c offset) := cond_encodeBranch ..

theorem CondField.bl (c : Cond) (offset : BitVec 24) :
    CondField.Statement (.bl c offset) := cond_encodeBranch ..

theorem CondField.andImm (c : Cond) (sb : Bool) (rn : RegNo) (rd : RegNo) (rotate : BitVec 4) (imm : BitVec 8) :
    CondField.Statement (.andImm c sb rn rd rotate imm) := cond_encodeDpImm ..

theorem CondField.andShiftImm (c : Cond) (sb : Bool) (rn : RegNo) (rd : RegNo) (amount : BitVec 5) (ty : ShiftType)
    (rm : RegNo) :
    CondField.Statement (.andShiftImm c sb rn rd amount ty rm) := cond_encodeDpShiftImm ..

theorem CondField.andShiftReg (c : Cond) (sb : Bool) (rn : RegNo) (rd : RegNo) (rs : RegNo) (ty : ShiftType) (rm :
    RegNo) :
    CondField.Statement (.andShiftReg c sb rn rd rs ty rm) := cond_encodeDpShiftReg ..

theorem CondField.eorImm (c : Cond) (sb : Bool) (rn : RegNo) (rd : RegNo) (rotate : BitVec 4) (imm : BitVec 8) :
    CondField.Statement (.eorImm c sb rn rd rotate imm) := cond_encodeDpImm ..

theorem CondField.eorShiftImm (c : Cond) (sb : Bool) (rn : RegNo) (rd : RegNo) (amount : BitVec 5) (ty : ShiftType)
    (rm : RegNo) :
    CondField.Statement (.eorShiftImm c sb rn rd amount ty rm) := cond_encodeDpShiftImm ..

theorem CondField.eorShiftReg (c : Cond) (sb : Bool) (rn : RegNo) (rd : RegNo) (rs : RegNo) (ty : ShiftType) (rm :
    RegNo) :
    CondField.Statement (.eorShiftReg c sb rn rd rs ty rm) := cond_encodeDpShiftReg ..

theorem CondField.subImm (c : Cond) (sb : Bool) (rn : RegNo) (rd : RegNo) (rotate : BitVec 4) (imm : BitVec 8) :
    CondField.Statement (.subImm c sb rn rd rotate imm) := cond_encodeDpImm ..

theorem CondField.subShiftImm (c : Cond) (sb : Bool) (rn : RegNo) (rd : RegNo) (amount : BitVec 5) (ty : ShiftType)
    (rm : RegNo) :
    CondField.Statement (.subShiftImm c sb rn rd amount ty rm) := cond_encodeDpShiftImm ..

theorem CondField.subShiftReg (c : Cond) (sb : Bool) (rn : RegNo) (rd : RegNo) (rs : RegNo) (ty : ShiftType) (rm :
    RegNo) :
    CondField.Statement (.subShiftReg c sb rn rd rs ty rm) := cond_encodeDpShiftReg ..

theorem CondField.rsbImm (c : Cond) (sb : Bool) (rn : RegNo) (rd : RegNo) (rotate : BitVec 4) (imm : BitVec 8) :
    CondField.Statement (.rsbImm c sb rn rd rotate imm) := cond_encodeDpImm ..

theorem CondField.rsbShiftImm (c : Cond) (sb : Bool) (rn : RegNo) (rd : RegNo) (amount : BitVec 5) (ty : ShiftType)
    (rm : RegNo) :
    CondField.Statement (.rsbShiftImm c sb rn rd amount ty rm) := cond_encodeDpShiftImm ..

theorem CondField.rsbShiftReg (c : Cond) (sb : Bool) (rn : RegNo) (rd : RegNo) (rs : RegNo) (ty : ShiftType) (rm :
    RegNo) :
    CondField.Statement (.rsbShiftReg c sb rn rd rs ty rm) := cond_encodeDpShiftReg ..

theorem CondField.addImm (c : Cond) (sb : Bool) (rn : RegNo) (rd : RegNo) (rotate : BitVec 4) (imm : BitVec 8) :
    CondField.Statement (.addImm c sb rn rd rotate imm) := cond_encodeDpImm ..

theorem CondField.addShiftImm (c : Cond) (sb : Bool) (rn : RegNo) (rd : RegNo) (amount : BitVec 5) (ty : ShiftType)
    (rm : RegNo) :
    CondField.Statement (.addShiftImm c sb rn rd amount ty rm) := cond_encodeDpShiftImm ..

theorem CondField.addShiftReg (c : Cond) (sb : Bool) (rn : RegNo) (rd : RegNo) (rs : RegNo) (ty : ShiftType) (rm :
    RegNo) :
    CondField.Statement (.addShiftReg c sb rn rd rs ty rm) := cond_encodeDpShiftReg ..

theorem CondField.adcImm (c : Cond) (sb : Bool) (rn : RegNo) (rd : RegNo) (rotate : BitVec 4) (imm : BitVec 8) :
    CondField.Statement (.adcImm c sb rn rd rotate imm) := cond_encodeDpImm ..

theorem CondField.adcShiftImm (c : Cond) (sb : Bool) (rn : RegNo) (rd : RegNo) (amount : BitVec 5) (ty : ShiftType)
    (rm : RegNo) :
    CondField.Statement (.adcShiftImm c sb rn rd amount ty rm) := cond_encodeDpShiftImm ..

theorem CondField.adcShiftReg (c : Cond) (sb : Bool) (rn : RegNo) (rd : RegNo) (rs : RegNo) (ty : ShiftType) (rm :
    RegNo) :
    CondField.Statement (.adcShiftReg c sb rn rd rs ty rm) := cond_encodeDpShiftReg ..

theorem CondField.sbcImm (c : Cond) (sb : Bool) (rn : RegNo) (rd : RegNo) (rotate : BitVec 4) (imm : BitVec 8) :
    CondField.Statement (.sbcImm c sb rn rd rotate imm) := cond_encodeDpImm ..

theorem CondField.sbcShiftImm (c : Cond) (sb : Bool) (rn : RegNo) (rd : RegNo) (amount : BitVec 5) (ty : ShiftType)
    (rm : RegNo) :
    CondField.Statement (.sbcShiftImm c sb rn rd amount ty rm) := cond_encodeDpShiftImm ..

theorem CondField.sbcShiftReg (c : Cond) (sb : Bool) (rn : RegNo) (rd : RegNo) (rs : RegNo) (ty : ShiftType) (rm :
    RegNo) :
    CondField.Statement (.sbcShiftReg c sb rn rd rs ty rm) := cond_encodeDpShiftReg ..

theorem CondField.rscImm (c : Cond) (sb : Bool) (rn : RegNo) (rd : RegNo) (rotate : BitVec 4) (imm : BitVec 8) :
    CondField.Statement (.rscImm c sb rn rd rotate imm) := cond_encodeDpImm ..

theorem CondField.rscShiftImm (c : Cond) (sb : Bool) (rn : RegNo) (rd : RegNo) (amount : BitVec 5) (ty : ShiftType)
    (rm : RegNo) :
    CondField.Statement (.rscShiftImm c sb rn rd amount ty rm) := cond_encodeDpShiftImm ..

theorem CondField.rscShiftReg (c : Cond) (sb : Bool) (rn : RegNo) (rd : RegNo) (rs : RegNo) (ty : ShiftType) (rm :
    RegNo) :
    CondField.Statement (.rscShiftReg c sb rn rd rs ty rm) := cond_encodeDpShiftReg ..

theorem CondField.tstImm (c : Cond) (rn : RegNo) (rd : RegNo) (rotate : BitVec 4) (imm : BitVec 8) :
    CondField.Statement (.tstImm c rn rd rotate imm) := cond_encodeDpImm ..

theorem CondField.tstShiftImm (c : Cond) (rn : RegNo) (rd : RegNo) (amount : BitVec 5) (ty : ShiftType) (rm : RegNo) :
    CondField.Statement (.tstShiftImm c rn rd amount ty rm) := cond_encodeDpShiftImm ..

theorem CondField.tstShiftReg (c : Cond) (rn : RegNo) (rd : RegNo) (rs : RegNo) (ty : ShiftType) (rm : RegNo) :
    CondField.Statement (.tstShiftReg c rn rd rs ty rm) := cond_encodeDpShiftReg ..

theorem CondField.teqImm (c : Cond) (rn : RegNo) (rd : RegNo) (rotate : BitVec 4) (imm : BitVec 8) :
    CondField.Statement (.teqImm c rn rd rotate imm) := cond_encodeDpImm ..

theorem CondField.teqShiftImm (c : Cond) (rn : RegNo) (rd : RegNo) (amount : BitVec 5) (ty : ShiftType) (rm : RegNo) :
    CondField.Statement (.teqShiftImm c rn rd amount ty rm) := cond_encodeDpShiftImm ..

theorem CondField.teqShiftReg (c : Cond) (rn : RegNo) (rd : RegNo) (rs : RegNo) (ty : ShiftType) (rm : RegNo) :
    CondField.Statement (.teqShiftReg c rn rd rs ty rm) := cond_encodeDpShiftReg ..

theorem CondField.cmpImm (c : Cond) (rn : RegNo) (rd : RegNo) (rotate : BitVec 4) (imm : BitVec 8) :
    CondField.Statement (.cmpImm c rn rd rotate imm) := cond_encodeDpImm ..

theorem CondField.cmpShiftImm (c : Cond) (rn : RegNo) (rd : RegNo) (amount : BitVec 5) (ty : ShiftType) (rm : RegNo) :
    CondField.Statement (.cmpShiftImm c rn rd amount ty rm) := cond_encodeDpShiftImm ..

theorem CondField.cmpShiftReg (c : Cond) (rn : RegNo) (rd : RegNo) (rs : RegNo) (ty : ShiftType) (rm : RegNo) :
    CondField.Statement (.cmpShiftReg c rn rd rs ty rm) := cond_encodeDpShiftReg ..

theorem CondField.cmnImm (c : Cond) (rn : RegNo) (rd : RegNo) (rotate : BitVec 4) (imm : BitVec 8) :
    CondField.Statement (.cmnImm c rn rd rotate imm) := cond_encodeDpImm ..

theorem CondField.cmnShiftImm (c : Cond) (rn : RegNo) (rd : RegNo) (amount : BitVec 5) (ty : ShiftType) (rm : RegNo) :
    CondField.Statement (.cmnShiftImm c rn rd amount ty rm) := cond_encodeDpShiftImm ..

theorem CondField.cmnShiftReg (c : Cond) (rn : RegNo) (rd : RegNo) (rs : RegNo) (ty : ShiftType) (rm : RegNo) :
    CondField.Statement (.cmnShiftReg c rn rd rs ty rm) := cond_encodeDpShiftReg ..

theorem CondField.orrImm (c : Cond) (sb : Bool) (rn : RegNo) (rd : RegNo) (rotate : BitVec 4) (imm : BitVec 8) :
    CondField.Statement (.orrImm c sb rn rd rotate imm) := cond_encodeDpImm ..

theorem CondField.orrShiftImm (c : Cond) (sb : Bool) (rn : RegNo) (rd : RegNo) (amount : BitVec 5) (ty : ShiftType)
    (rm : RegNo) :
    CondField.Statement (.orrShiftImm c sb rn rd amount ty rm) := cond_encodeDpShiftImm ..

theorem CondField.orrShiftReg (c : Cond) (sb : Bool) (rn : RegNo) (rd : RegNo) (rs : RegNo) (ty : ShiftType) (rm :
    RegNo) :
    CondField.Statement (.orrShiftReg c sb rn rd rs ty rm) := cond_encodeDpShiftReg ..

theorem CondField.movImm (c : Cond) (sb : Bool) (rn : RegNo) (rd : RegNo) (rotate : BitVec 4) (imm : BitVec 8) :
    CondField.Statement (.movImm c sb rn rd rotate imm) := cond_encodeDpImm ..

theorem CondField.movShiftImm (c : Cond) (sb : Bool) (rn : RegNo) (rd : RegNo) (amount : BitVec 5) (ty : ShiftType)
    (rm : RegNo) :
    CondField.Statement (.movShiftImm c sb rn rd amount ty rm) := cond_encodeDpShiftImm ..

theorem CondField.movShiftReg (c : Cond) (sb : Bool) (rn : RegNo) (rd : RegNo) (rs : RegNo) (ty : ShiftType) (rm :
    RegNo) :
    CondField.Statement (.movShiftReg c sb rn rd rs ty rm) := cond_encodeDpShiftReg ..

theorem CondField.bicImm (c : Cond) (sb : Bool) (rn : RegNo) (rd : RegNo) (rotate : BitVec 4) (imm : BitVec 8) :
    CondField.Statement (.bicImm c sb rn rd rotate imm) := cond_encodeDpImm ..

theorem CondField.bicShiftImm (c : Cond) (sb : Bool) (rn : RegNo) (rd : RegNo) (amount : BitVec 5) (ty : ShiftType)
    (rm : RegNo) :
    CondField.Statement (.bicShiftImm c sb rn rd amount ty rm) := cond_encodeDpShiftImm ..

theorem CondField.bicShiftReg (c : Cond) (sb : Bool) (rn : RegNo) (rd : RegNo) (rs : RegNo) (ty : ShiftType) (rm :
    RegNo) :
    CondField.Statement (.bicShiftReg c sb rn rd rs ty rm) := cond_encodeDpShiftReg ..

theorem CondField.mvnImm (c : Cond) (sb : Bool) (rn : RegNo) (rd : RegNo) (rotate : BitVec 4) (imm : BitVec 8) :
    CondField.Statement (.mvnImm c sb rn rd rotate imm) := cond_encodeDpImm ..

theorem CondField.mvnShiftImm (c : Cond) (sb : Bool) (rn : RegNo) (rd : RegNo) (amount : BitVec 5) (ty : ShiftType)
    (rm : RegNo) :
    CondField.Statement (.mvnShiftImm c sb rn rd amount ty rm) := cond_encodeDpShiftImm ..

theorem CondField.mvnShiftReg (c : Cond) (sb : Bool) (rn : RegNo) (rd : RegNo) (rs : RegNo) (ty : ShiftType) (rm :
    RegNo) :
    CondField.Statement (.mvnShiftReg c sb rn rd rs ty rm) := cond_encodeDpShiftReg ..

theorem CondField.mrsCpsr (c : Cond) (rd : RegNo) :
    CondField.Statement (.mrsCpsr c rd) := cond_encodeMrs ..

theorem CondField.mrsSpsr (c : Cond) (rd : RegNo) :
    CondField.Statement (.mrsSpsr c rd) := cond_encodeMrs ..

theorem CondField.msrCpsrReg (c : Cond) (mask : FieldMask) (rm : RegNo) :
    CondField.Statement (.msrCpsrReg c mask rm) := cond_encodeMsrReg ..

theorem CondField.msrCpsrImm (c : Cond) (mask : FieldMask) (rotate : BitVec 4) (imm : BitVec 8) :
    CondField.Statement (.msrCpsrImm c mask rotate imm) := cond_encodeMsrImm ..

theorem CondField.msrSpsrReg (c : Cond) (mask : FieldMask) (rm : RegNo) :
    CondField.Statement (.msrSpsrReg c mask rm) := cond_encodeMsrReg ..

theorem CondField.msrSpsrImm (c : Cond) (mask : FieldMask) (rotate : BitVec 4) (imm : BitVec 8) :
    CondField.Statement (.msrSpsrImm c mask rotate imm) := cond_encodeMsrImm ..

theorem CondField.mul (c : Cond) (sb : Bool) (rd : RegNo) (rn : RegNo) (rs : RegNo) (rm : RegNo) :
    CondField.Statement (.mul c sb rd rn rs rm) := cond_encodeMultiply ..

theorem CondField.mla (c : Cond) (sb : Bool) (rd : RegNo) (rn : RegNo) (rs : RegNo) (rm : RegNo) :
    CondField.Statement (.mla c sb rd rn rs rm) := cond_encodeMultiply ..

theorem CondField.umull (c : Cond) (sb : Bool) (rdHi : RegNo) (rdLo : RegNo) (rs : RegNo) (rm : RegNo) :
    CondField.Statement (.umull c sb rdHi rdLo rs rm) := cond_encodeMultiplyLong ..

theorem CondField.umlal (c : Cond) (sb : Bool) (rdHi : RegNo) (rdLo : RegNo) (rs : RegNo) (rm : RegNo) :
    CondField.Statement (.umlal c sb rdHi rdLo rs rm) := cond_encodeMultiplyLong ..

theorem CondField.smull (c : Cond) (sb : Bool) (rdHi : RegNo) (rdLo : RegNo) (rs : RegNo) (rm : RegNo) :
    CondField.Statement (.smull c sb rdHi rdLo rs rm) := cond_encodeMultiplyLong ..

theorem CondField.smlal (c : Cond) (sb : Bool) (rdHi : RegNo) (rdLo : RegNo) (rs : RegNo) (rm : RegNo) :
    CondField.Statement (.smlal c sb rdHi rdLo rs rm) := cond_encodeMultiplyLong ..

theorem CondField.ldrImmPre (c : Cond) (up : Bool) (wb : Bool) (rn : RegNo) (rd : RegNo) (offset : BitVec 12) :
    CondField.Statement (.ldrImmPre c up wb rn rd offset) := cond_encodeSingleImm ..

theorem CondField.ldrImmPost (c : Cond) (up : Bool) (rn : RegNo) (rd : RegNo) (offset : BitVec 12) :
    CondField.Statement (.ldrImmPost c up rn rd offset) := cond_encodeSingleImm ..

theorem CondField.ldrtImm (c : Cond) (up : Bool) (rn : RegNo) (rd : RegNo) (offset : BitVec 12) :
    CondField.Statement (.ldrtImm c up rn rd offset) := cond_encodeSingleImm ..

theorem CondField.ldrRegPre (c : Cond) (up : Bool) (wb : Bool) (rn : RegNo) (rd : RegNo) (amount : BitVec 5) (ty :
    ShiftType) (rm : RegNo) :
    CondField.Statement (.ldrRegPre c up wb rn rd amount ty rm) := cond_encodeSingleReg ..

theorem CondField.ldrRegPost (c : Cond) (up : Bool) (rn : RegNo) (rd : RegNo) (amount : BitVec 5) (ty : ShiftType)
    (rm : RegNo) :
    CondField.Statement (.ldrRegPost c up rn rd amount ty rm) := cond_encodeSingleReg ..

theorem CondField.ldrtReg (c : Cond) (up : Bool) (rn : RegNo) (rd : RegNo) (amount : BitVec 5) (ty : ShiftType) (rm
    : RegNo) :
    CondField.Statement (.ldrtReg c up rn rd amount ty rm) := cond_encodeSingleReg ..

theorem CondField.ldrbImmPre (c : Cond) (up : Bool) (wb : Bool) (rn : RegNo) (rd : RegNo) (offset : BitVec 12) :
    CondField.Statement (.ldrbImmPre c up wb rn rd offset) := cond_encodeSingleImm ..

theorem CondField.ldrbImmPost (c : Cond) (up : Bool) (rn : RegNo) (rd : RegNo) (offset : BitVec 12) :
    CondField.Statement (.ldrbImmPost c up rn rd offset) := cond_encodeSingleImm ..

theorem CondField.ldrbtImm (c : Cond) (up : Bool) (rn : RegNo) (rd : RegNo) (offset : BitVec 12) :
    CondField.Statement (.ldrbtImm c up rn rd offset) := cond_encodeSingleImm ..

theorem CondField.ldrbRegPre (c : Cond) (up : Bool) (wb : Bool) (rn : RegNo) (rd : RegNo) (amount : BitVec 5) (ty :
    ShiftType) (rm : RegNo) :
    CondField.Statement (.ldrbRegPre c up wb rn rd amount ty rm) := cond_encodeSingleReg ..

theorem CondField.ldrbRegPost (c : Cond) (up : Bool) (rn : RegNo) (rd : RegNo) (amount : BitVec 5) (ty : ShiftType)
    (rm : RegNo) :
    CondField.Statement (.ldrbRegPost c up rn rd amount ty rm) := cond_encodeSingleReg ..

theorem CondField.ldrbtReg (c : Cond) (up : Bool) (rn : RegNo) (rd : RegNo) (amount : BitVec 5) (ty : ShiftType) (rm
    : RegNo) :
    CondField.Statement (.ldrbtReg c up rn rd amount ty rm) := cond_encodeSingleReg ..

theorem CondField.strImmPre (c : Cond) (up : Bool) (wb : Bool) (rn : RegNo) (rd : RegNo) (offset : BitVec 12) :
    CondField.Statement (.strImmPre c up wb rn rd offset) := cond_encodeSingleImm ..

theorem CondField.strImmPost (c : Cond) (up : Bool) (rn : RegNo) (rd : RegNo) (offset : BitVec 12) :
    CondField.Statement (.strImmPost c up rn rd offset) := cond_encodeSingleImm ..

theorem CondField.strtImm (c : Cond) (up : Bool) (rn : RegNo) (rd : RegNo) (offset : BitVec 12) :
    CondField.Statement (.strtImm c up rn rd offset) := cond_encodeSingleImm ..

theorem CondField.strRegPre (c : Cond) (up : Bool) (wb : Bool) (rn : RegNo) (rd : RegNo) (amount : BitVec 5) (ty :
    ShiftType) (rm : RegNo) :
    CondField.Statement (.strRegPre c up wb rn rd amount ty rm) := cond_encodeSingleReg ..

theorem CondField.strRegPost (c : Cond) (up : Bool) (rn : RegNo) (rd : RegNo) (amount : BitVec 5) (ty : ShiftType)
    (rm : RegNo) :
    CondField.Statement (.strRegPost c up rn rd amount ty rm) := cond_encodeSingleReg ..

theorem CondField.strtReg (c : Cond) (up : Bool) (rn : RegNo) (rd : RegNo) (amount : BitVec 5) (ty : ShiftType) (rm
    : RegNo) :
    CondField.Statement (.strtReg c up rn rd amount ty rm) := cond_encodeSingleReg ..

theorem CondField.strbImmPre (c : Cond) (up : Bool) (wb : Bool) (rn : RegNo) (rd : RegNo) (offset : BitVec 12) :
    CondField.Statement (.strbImmPre c up wb rn rd offset) := cond_encodeSingleImm ..

theorem CondField.strbImmPost (c : Cond) (up : Bool) (rn : RegNo) (rd : RegNo) (offset : BitVec 12) :
    CondField.Statement (.strbImmPost c up rn rd offset) := cond_encodeSingleImm ..

theorem CondField.strbtImm (c : Cond) (up : Bool) (rn : RegNo) (rd : RegNo) (offset : BitVec 12) :
    CondField.Statement (.strbtImm c up rn rd offset) := cond_encodeSingleImm ..

theorem CondField.strbRegPre (c : Cond) (up : Bool) (wb : Bool) (rn : RegNo) (rd : RegNo) (amount : BitVec 5) (ty :
    ShiftType) (rm : RegNo) :
    CondField.Statement (.strbRegPre c up wb rn rd amount ty rm) := cond_encodeSingleReg ..

theorem CondField.strbRegPost (c : Cond) (up : Bool) (rn : RegNo) (rd : RegNo) (amount : BitVec 5) (ty : ShiftType)
    (rm : RegNo) :
    CondField.Statement (.strbRegPost c up rn rd amount ty rm) := cond_encodeSingleReg ..

theorem CondField.strbtReg (c : Cond) (up : Bool) (rn : RegNo) (rd : RegNo) (amount : BitVec 5) (ty : ShiftType) (rm
    : RegNo) :
    CondField.Statement (.strbtReg c up rn rd amount ty rm) := cond_encodeSingleReg ..

theorem CondField.ldrhRegPre (c : Cond) (up : Bool) (wb : Bool) (rn : RegNo) (rd : RegNo) (rm : RegNo) :
    CondField.Statement (.ldrhRegPre c up wb rn rd rm) := cond_encodeHalfReg ..

theorem CondField.ldrhRegPost (c : Cond) (up : Bool) (rn : RegNo) (rd : RegNo) (rm : RegNo) :
    CondField.Statement (.ldrhRegPost c up rn rd rm) := cond_encodeHalfReg ..

theorem CondField.ldrhImmPre (c : Cond) (up : Bool) (wb : Bool) (rn : RegNo) (rd : RegNo) (offset : BitVec 8) :
    CondField.Statement (.ldrhImmPre c up wb rn rd offset) := cond_encodeHalfImm ..

theorem CondField.ldrhImmPost (c : Cond) (up : Bool) (rn : RegNo) (rd : RegNo) (offset : BitVec 8) :
    CondField.Statement (.ldrhImmPost c up rn rd offset) := cond_encodeHalfImm ..

theorem CondField.ldrsbRegPre (c : Cond) (up : Bool) (wb : Bool) (rn : RegNo) (rd : RegNo) (rm : RegNo) :
    CondField.Statement (.ldrsbRegPre c up wb rn rd rm) := cond_encodeHalfReg ..

theorem CondField.ldrsbRegPost (c : Cond) (up : Bool) (rn : RegNo) (rd : RegNo) (rm : RegNo) :
    CondField.Statement (.ldrsbRegPost c up rn rd rm) := cond_encodeHalfReg ..

theorem CondField.ldrsbImmPre (c : Cond) (up : Bool) (wb : Bool) (rn : RegNo) (rd : RegNo) (offset : BitVec 8) :
    CondField.Statement (.ldrsbImmPre c up wb rn rd offset) := cond_encodeHalfImm ..

theorem CondField.ldrsbImmPost (c : Cond) (up : Bool) (rn : RegNo) (rd : RegNo) (offset : BitVec 8) :
    CondField.Statement (.ldrsbImmPost c up rn rd offset) := cond_encodeHalfImm ..

theorem CondField.ldrshRegPre (c : Cond) (up : Bool) (wb : Bool) (rn : RegNo) (rd : RegNo) (rm : RegNo) :
    CondField.Statement (.ldrshRegPre c up wb rn rd rm) := cond_encodeHalfReg ..

theorem CondField.ldrshRegPost (c : Cond) (up : Bool) (rn : RegNo) (rd : RegNo) (rm : RegNo) :
    CondField.Statement (.ldrshRegPost c up rn rd rm) := cond_encodeHalfReg ..

theorem CondField.ldrshImmPre (c : Cond) (up : Bool) (wb : Bool) (rn : RegNo) (rd : RegNo) (offset : BitVec 8) :
    CondField.Statement (.ldrshImmPre c up wb rn rd offset) := cond_encodeHalfImm ..

theorem CondField.ldrshImmPost (c : Cond) (up : Bool) (rn : RegNo) (rd : RegNo) (offset : BitVec 8) :
    CondField.Statement (.ldrshImmPost c up rn rd offset) := cond_encodeHalfImm ..

theorem CondField.strhRegPre (c : Cond) (up : Bool) (wb : Bool) (rn : RegNo) (rd : RegNo) (rm : RegNo) :
    CondField.Statement (.strhRegPre c up wb rn rd rm) := cond_encodeHalfReg ..

theorem CondField.strhRegPost (c : Cond) (up : Bool) (rn : RegNo) (rd : RegNo) (rm : RegNo) :
    CondField.Statement (.strhRegPost c up rn rd rm) := cond_encodeHalfReg ..

theorem CondField.strhImmPre (c : Cond) (up : Bool) (wb : Bool) (rn : RegNo) (rd : RegNo) (offset : BitVec 8) :
    CondField.Statement (.strhImmPre c up wb rn rd offset) := cond_encodeHalfImm ..

theorem CondField.strhImmPost (c : Cond) (up : Bool) (rn : RegNo) (rd : RegNo) (offset : BitVec 8) :
    CondField.Statement (.strhImmPost c up rn rd offset) := cond_encodeHalfImm ..

theorem CondField.ldm (c : Cond) (pre : Bool) (up : Bool) (wb : Bool) (rn : RegNo) (list : BitVec 16) :
    CondField.Statement (.ldm c pre up wb rn list) := cond_encodeBlock ..

theorem CondField.ldmPc (c : Cond) (pre : Bool) (up : Bool) (wb : Bool) (rn : RegNo) (list : BitVec 15) :
    CondField.Statement (.ldmPc c pre up wb rn list) := cond_encodeBlockSplit ..

theorem CondField.ldmUser (c : Cond) (pre : Bool) (up : Bool) (wb : Bool) (rn : RegNo) (list : BitVec 15) :
    CondField.Statement (.ldmUser c pre up wb rn list) := cond_encodeBlockSplit ..

theorem CondField.stm (c : Cond) (pre : Bool) (up : Bool) (wb : Bool) (rn : RegNo) (list : BitVec 16) :
    CondField.Statement (.stm c pre up wb rn list) := cond_encodeBlock ..

theorem CondField.stmUser (c : Cond) (pre : Bool) (up : Bool) (wb : Bool) (rn : RegNo) (list : BitVec 16) :
    CondField.Statement (.stmUser c pre up wb rn list) := cond_encodeBlock ..

theorem CondField.swp (c : Cond) (rn : RegNo) (rd : RegNo) (rm : RegNo) :
    CondField.Statement (.swp c rn rd rm) := cond_encodeSwap ..

theorem CondField.swpb (c : Cond) (rn : RegNo) (rd : RegNo) (rm : RegNo) :
    CondField.Statement (.swpb c rn rd rm) := cond_encodeSwap ..

theorem CondField.swi (c : Cond) (comment : BitVec 24) :
    CondField.Statement (.swi c comment) := cond_encodeSwi ..

theorem CondField.imb (c : Cond) :
    CondField.Statement (.imb c) := cond_encodeSwi ..

theorem CondField.imbRange (c : Cond) :
    CondField.Statement (.imbRange c) := cond_encodeSwi ..

theorem CondField.cdp (c : Cond) (opc : BitVec 4) (crn : RegNo) (crd : RegNo) (cp : BitVec 4) (info : BitVec 3) (crm
    : RegNo) :
    CondField.Statement (.cdp c opc crn crd cp info crm) := cond_encodeCdp ..

theorem CondField.ldc (c : Cond) (pre : Bool) (up : Bool) (long : Bool) (wb : Bool) (rn : RegNo) (crd : RegNo) (cp :
    BitVec 4) (offset : BitVec 8) :
    CondField.Statement (.ldc c pre up long wb rn crd cp offset) := cond_encodeCoprocTransfer ..

theorem CondField.stc (c : Cond) (pre : Bool) (up : Bool) (long : Bool) (wb : Bool) (rn : RegNo) (crd : RegNo) (cp :
    BitVec 4) (offset : BitVec 8) :
    CondField.Statement (.stc c pre up long wb rn crd cp offset) := cond_encodeCoprocTransfer ..

theorem CondField.mrc (c : Cond) (opc : BitVec 3) (crn : RegNo) (rd : RegNo) (cp : BitVec 4) (info : BitVec 3) (crm
    : RegNo) :
    CondField.Statement (.mrc c opc crn rd cp info crm) := cond_encodeCoprocRegister ..

theorem CondField.mcr (c : Cond) (opc : BitVec 3) (crn : RegNo) (rd : RegNo) (cp : BitVec 4) (info : BitVec 3) (crm
    : RegNo) :
    CondField.Statement (.mcr c opc crn rd cp info crm) := cond_encodeCoprocRegister ..

theorem CondField.undefinedA (c : Cond) (bits : BitVec 28) :
    CondField.Statement (.undefinedA c bits) := cond_encodeUndefined ..

theorem CondField.undefinedB1 (c : Cond) (bits : BitVec 28) :
    CondField.Statement (.undefinedB1 c bits) := cond_encodeUndefined ..

theorem CondField.undefinedB2 (c : Cond) (bits : BitVec 28) :
    CondField.Statement (.undefinedB2 c bits) := cond_encodeUndefined ..

theorem CondField.undefinedB3 (c : Cond) (bits : BitVec 28) :
    CondField.Statement (.undefinedB3 c bits) := cond_encodeUndefined ..

theorem CondField.undefinedB4 (c : Cond) (bits : BitVec 28) :
    CondField.Statement (.undefinedB4 c bits) := cond_encodeUndefined ..

theorem CondField.undefinedB5 (c : Cond) (bits : BitVec 28) :
    CondField.Statement (.undefinedB5 c bits) := cond_encodeUndefined ..

theorem CondField.undefinedC (c : Cond) (bits : BitVec 28) :
    CondField.Statement (.undefinedC c bits) := cond_encodeUndefined ..

theorem CondField.undefinedD1 (c : Cond) (bits : BitVec 28) :
    CondField.Statement (.undefinedD1 c bits) := cond_encodeUndefined ..

theorem CondField.undefinedD2 (c : Cond) (bits : BitVec 28) :
    CondField.Statement (.undefinedD2 c bits) := cond_encodeUndefined ..

theorem CondField.undefinedD3 (c : Cond) (bits : BitVec 28) :
    CondField.Statement (.undefinedD3 c bits) := cond_encodeUndefined ..

theorem CondField.undefinedE1 (c : Cond) (bits : BitVec 28) :
    CondField.Statement (.undefinedE1 c bits) := cond_encodeUndefined ..

theorem CondField.undefinedE2 (c : Cond) (bits : BitVec 28) :
    CondField.Statement (.undefinedE2 c bits) := cond_encodeUndefined ..

theorem CondField.undefinedE3 (c : Cond) (bits : BitVec 28) :
    CondField.Statement (.undefinedE3 c bits) := cond_encodeUndefined ..

theorem CondField.undefinedE4 (c : Cond) (bits : BitVec 28) :
    CondField.Statement (.undefinedE4 c bits) := cond_encodeUndefined ..

end Laws

end Sys2Proof
end

