-- ==== Sys2Proof/Machine/Prefetch.lean ====
section
/-! DEFINITION. The Prefetch Unit's static branch prediction (spec/20_memory.md R120, R122, R227). It decides which
addresses are fetched and how long a branch takes, never what a program computes (R123, D3), so no step calls it: it is
here as the one part of the Prefetch Unit that is a function of the instruction (log 22). -/

namespace Sys2Proof.Machine

/-- What the Prefetch Unit makes of an instruction (R120). -/
inductive Prediction where
  | notPredicted | predictedTaken | predictedNotTaken
  deriving DecidableEq, Repr

/-- The scheme of R120 for an instruction word, with `PredictOn` and whether its fetch aborted. -/
def staticPrediction (predictOn fetchAborted : Bool) (w : Word) : Prediction :=
  let cond := field w 28 4
  if (field w 24 4 == 0b1011 && cond != 0b1110) || !predictOn || fetchAborted || cond == 0b1111
      || field w 25 3 != 0b101 then .notPredicted
  else if cond == 0b1110 || (!bit w 24 && bit w 23) then .predictedTaken
  else .predictedNotTaken

end Sys2Proof.Machine
end

