-- ==== Sys2Proof/Tests/Slice0.lean ====
section
/-! SUPPORT. Tests: the ill-formed terms each check refuses, one word of every row of spec/opcode_table.json, single
steps with results from the spec's vectors, and a witness for every statement with hypotheses. -/

namespace Sys2Proof.Tests

open Sys2Proof.Machine

/-! ### Ill-formed terms -/

/-- A SWI with the comment of IMB or of IMBRange is written as that constructor (R179). -/
theorem test_swi_comment_ill_formed :
    (Instr.swi .al 0xF00000).wellFormed = false ∧ (Instr.swi .al 0xF00001).wellFormed = false
    ∧ (Instr.swi .al 0xF00002).wellFormed = true := by decide

/-- Bits outside the pattern of an undefined row (R180), each the word of a neighbour. -/
theorem test_undefined_bits_ill_formed :
    (Instr.undefinedA .al 0x6000000).wellFormed = false ∧ (Instr.undefinedB1 .al 0x1000000).wellFormed = false
    ∧ (Instr.undefinedB2 .al 0x1000080).wellFormed = false ∧ (Instr.undefinedB3 .al 0x1000040).wellFormed = false
    ∧ (Instr.undefinedB4 .al 0x1100010).wellFormed = false ∧ (Instr.undefinedB5 .al 0x3200000).wellFormed = false
    ∧ (Instr.undefinedC .al 0x0000090).wellFormed = false ∧ (Instr.undefinedD1 .al 0x1000090).wellFormed = false
    ∧ (Instr.undefinedD2 .al 0x1400090).wellFormed = false ∧ (Instr.undefinedD3 .al 0x1000090).wellFormed = false
    ∧ (Instr.undefinedE1 .al 0x02000B0).wellFormed = false ∧ (Instr.undefinedE2 .al 0x02000D0).wellFormed = false
    ∧ (Instr.undefinedE3 .al 0x11000D0).wellFormed = false ∧ (Instr.undefinedE4 .al 0x01000D0).wellFormed = false := by
  decide

/-! ### Decoding

Every word is written bit by bit from the format of the rule named: the condition in bits 31:28, then the fields from
the left. The fifteen conditions take turns (R221). -/

/-- R170. -/
theorem test_decode_branch :
    decode 0b00001010000000000000000000000110 = .instr (.b .eq 6)
    ∧ decode 0b00011011111111111111111111111110 = .instr (.bl .ne 0xFFFFFE) := by
  decide

/-- R166 to R169. -/
theorem test_decode_data_processing_immediate :
    decode 0b00100010000100100101011110000001 = .instr (.andImm .cs true 2 5 7 0x81)
    ∧ decode 0b00110010001000100101011110000001 = .instr (.eorImm .cc false 2 5 7 0x81)
    ∧ decode 0b01000010010100100101011110000001 = .instr (.subImm .mi true 2 5 7 0x81)
    ∧ decode 0b01010010011000100101011110000001 = .instr (.rsbImm .pl false 2 5 7 0x81)
    ∧ decode 0b01100010100100100101011110000001 = .instr (.addImm .vs true 2 5 7 0x81)
    ∧ decode 0b01110010101000100101011110000001 = .instr (.adcImm .vc false 2 5 7 0x81)
    ∧ decode 0b10000010110100100101011110000001 = .instr (.sbcImm .hi true 2 5 7 0x81)
    ∧ decode 0b10010010111000100101011110000001 = .instr (.rscImm .ls false 2 5 7 0x81)
    ∧ decode 0b10100011000100100101011110000001 = .instr (.tstImm .ge 2 5 7 0x81)
    ∧ decode 0b10110011001100100101011110000001 = .instr (.teqImm .lt 2 5 7 0x81)
    ∧ decode 0b11000011010100100101011110000001 = .instr (.cmpImm .gt 2 5 7 0x81)
    ∧ decode 0b11010011011100100101011110000001 = .instr (.cmnImm .le 2 5 7 0x81)
    ∧ decode 0b11100011100100100101011110000001 = .instr (.orrImm .al true 2 5 7 0x81)
    ∧ decode 0b00000011101000100101011110000001 = .instr (.movImm .eq false 2 5 7 0x81)
    ∧ decode 0b00010011110100100101011110000001 = .instr (.bicImm .ne true 2 5 7 0x81)
    ∧ decode 0b00100011111000100101011110000001 = .instr (.mvnImm .cs false 2 5 7 0x81) := by
  decide

/-- R166 to R169. -/
theorem test_decode_data_processing_immediate_shift :
    decode 0b00110000000100100101100110001100 = .instr (.andShiftImm .cc true 2 5 19 .lsl 12)
    ∧ decode 0b01000000001000100101100110101100 = .instr (.eorShiftImm .mi false 2 5 19 .lsr 12)
    ∧ decode 0b01010000010100100101100111001100 = .instr (.subShiftImm .pl true 2 5 19 .asr 12)
    ∧ decode 0b01100000011000100101100111101100 = .instr (.rsbShiftImm .vs false 2 5 19 .ror 12)
    ∧ decode 0b01110000100100100101100110001100 = .instr (.addShiftImm .vc true 2 5 19 .lsl 12)
    ∧ decode 0b10000000101000100101100110101100 = .instr (.adcShiftImm .hi false 2 5 19 .lsr 12)
    ∧ decode 0b10010000110100100101100111001100 = .instr (.sbcShiftImm .ls true 2 5 19 .asr 12)
    ∧ decode 0b10100000111000100101100111101100 = .instr (.rscShiftImm .ge false 2 5 19 .ror 12)
    ∧ decode 0b10110001000100100101100110001100 = .instr (.tstShiftImm .lt 2 5 19 .lsl 12)
    ∧ decode 0b11000001001100100101100110101100 = .instr (.teqShiftImm .gt 2 5 19 .lsr 12)
    ∧ decode 0b11010001010100100101100111001100 = .instr (.cmpShiftImm .le 2 5 19 .asr 12)
    ∧ decode 0b11100001011100100101100111101100 = .instr (.cmnShiftImm .al 2 5 19 .ror 12)
    ∧ decode 0b00000001100100100101100110001100 = .instr (.orrShiftImm .eq true 2 5 19 .lsl 12)
    ∧ decode 0b00010001101000100101100110101100 = .instr (.movShiftImm .ne false 2 5 19 .lsr 12)
    ∧ decode 0b00100001110100100101100111001100 = .instr (.bicShiftImm .cs true 2 5 19 .asr 12)
    ∧ decode 0b00110001111000100101100111101100 = .instr (.mvnShiftImm .cc false 2 5 19 .ror 12) := by
  decide

/-- R166 to R169. -/
theorem test_decode_data_processing_register_shift :
    decode 0b01000000000100100101100100011100 = .instr (.andShiftReg .mi true 2 5 9 .lsl 12)
    ∧ decode 0b01010000001000100101100100111100 = .instr (.eorShiftReg .pl false 2 5 9 .lsr 12)
    ∧ decode 0b01100000010100100101100101011100 = .instr (.subShiftReg .vs true 2 5 9 .asr 12)
    ∧ decode 0b01110000011000100101100101111100 = .instr (.rsbShiftReg .vc false 2 5 9 .ror 12)
    ∧ decode 0b10000000100100100101100100011100 = .instr (.addShiftReg .hi true 2 5 9 .lsl 12)
    ∧ decode 0b10010000101000100101100100111100 = .instr (.adcShiftReg .ls false 2 5 9 .lsr 12)
    ∧ decode 0b10100000110100100101100101011100 = .instr (.sbcShiftReg .ge true 2 5 9 .asr 12)
    ∧ decode 0b10110000111000100101100101111100 = .instr (.rscShiftReg .lt false 2 5 9 .ror 12)
    ∧ decode 0b11000001000100100101100100011100 = .instr (.tstShiftReg .gt 2 5 9 .lsl 12)
    ∧ decode 0b11010001001100100101100100111100 = .instr (.teqShiftReg .le 2 5 9 .lsr 12)
    ∧ decode 0b11100001010100100101100101011100 = .instr (.cmpShiftReg .al 2 5 9 .asr 12)
    ∧ decode 0b00000001011100100101100101111100 = .instr (.cmnShiftReg .eq 2 5 9 .ror 12)
    ∧ decode 0b00010001100100100101100100011100 = .instr (.orrShiftReg .ne true 2 5 9 .lsl 12)
    ∧ decode 0b00100001101000100101100100111100 = .instr (.movShiftReg .cs false 2 5 9 .lsr 12)
    ∧ decode 0b00110001110100100101100101011100 = .instr (.bicShiftReg .cc true 2 5 9 .asr 12)
    ∧ decode 0b01000001111000100101100101111100 = .instr (.mvnShiftReg .mi false 2 5 9 .ror 12) := by
  decide

/-- R174. -/
theorem test_decode_psr_transfer :
    decode 0b01010001000011110101000000000000 = .instr (.mrsCpsr .pl 5)
    ∧ decode 0b01100001010011110101000000000000 = .instr (.mrsSpsr .vs 5)
    ∧ decode 0b01110001001010011111000000001100 = .instr (.msrCpsrReg .vc ⟨true, false, false, true⟩ 12)
    ∧ decode 0b10000011001010001111010000001111 = .instr (.msrCpsrImm .hi ⟨true, false, false, false⟩ 4 15)
    ∧ decode 0b10010001011001001111000000001100 = .instr (.msrSpsrReg .ls ⟨false, true, false, false⟩ 12)
    ∧ decode 0b10100011011000101111010000001111 = .instr (.msrSpsrImm .ge ⟨false, false, true, false⟩ 4 15) := by
  decide

/-- R175: Rd at 19:16, Rn at 15:12, Rs at 11:8, Rm at 3:0. -/
theorem test_decode_multiply :
    decode 0b10110000000101010010100110011100 = .instr (.mul .lt true 5 2 9 12)
    ∧ decode 0b11000000001001010010100110011100 = .instr (.mla .gt false 5 2 9 12)
    ∧ decode 0b11010000100101010010100110011100 = .instr (.umull .le true 5 2 9 12)
    ∧ decode 0b11100000101001010010100110011100 = .instr (.umlal .al false 5 2 9 12)
    ∧ decode 0b00000000110101010010100110011100 = .instr (.smull .eq true 5 2 9 12)
    ∧ decode 0b00010000111001010010100110011100 = .instr (.smlal .ne false 5 2 9 12) := by
  decide

/-- R171: I P U B W L. -/
theorem test_decode_single_ldr :
    decode 0b00100101101100100101100000000001 = .instr (.ldrImmPre .cs true true 2 5 0x801)
    ∧ decode 0b00110100000100100101100000000001 = .instr (.ldrImmPost .cc false 2 5 0x801)
    ∧ decode 0b01000100101100100101100000000001 = .instr (.ldrtImm .mi true 2 5 0x801)
    ∧ decode 0b01010111000100100101100110101100 = .instr (.ldrRegPre .pl false false 2 5 19 .lsr 12)
    ∧ decode 0b01100110100100100101100111001100 = .instr (.ldrRegPost .vs true 2 5 19 .asr 12)
    ∧ decode 0b01110110001100100101100111101100 = .instr (.ldrtReg .vc false 2 5 19 .ror 12) := by
  decide

/-- R171: I P U B W L. -/
theorem test_decode_single_ldrb :
    decode 0b10000101111100100101100000000001 = .instr (.ldrbImmPre .hi true true 2 5 0x801)
    ∧ decode 0b10010100010100100101100000000001 = .instr (.ldrbImmPost .ls false 2 5 0x801)
    ∧ decode 0b10100100111100100101100000000001 = .instr (.ldrbtImm .ge true 2 5 0x801)
    ∧ decode 0b10110111010100100101100110101100 = .instr (.ldrbRegPre .lt false false 2 5 19 .lsr 12)
    ∧ decode 0b11000110110100100101100111001100 = .instr (.ldrbRegPost .gt true 2 5 19 .asr 12)
    ∧ decode 0b11010110011100100101100111101100 = .instr (.ldrbtReg .le false 2 5 19 .ror 12) := by
  decide

/-- R171: I P U B W L. -/
theorem test_decode_single_str :
    decode 0b11100101101000100101100000000001 = .instr (.strImmPre .al true true 2 5 0x801)
    ∧ decode 0b00000100000000100101100000000001 = .instr (.strImmPost .eq false 2 5 0x801)
    ∧ decode 0b00010100101000100101100000000001 = .instr (.strtImm .ne true 2 5 0x801)
    ∧ decode 0b00100111000000100101100110101100 = .instr (.strRegPre .cs false false 2 5 19 .lsr 12)
    ∧ decode 0b00110110100000100101100111001100 = .instr (.strRegPost .cc true 2 5 19 .asr 12)
    ∧ decode 0b01000110001000100101100111101100 = .instr (.strtReg .mi false 2 5 19 .ror 12) := by
  decide

/-- R171: I P U B W L. -/
theorem test_decode_single_strb :
    decode 0b01010101111000100101100000000001 = .instr (.strbImmPre .pl true true 2 5 0x801)
    ∧ decode 0b01100100010000100101100000000001 = .instr (.strbImmPost .vs false 2 5 0x801)
    ∧ decode 0b01110100111000100101100000000001 = .instr (.strbtImm .vc true 2 5 0x801)
    ∧ decode 0b10000111010000100101100110101100 = .instr (.strbRegPre .hi false false 2 5 19 .lsr 12)
    ∧ decode 0b10010110110000100101100111001100 = .instr (.strbRegPost .ls true 2 5 19 .asr 12)
    ∧ decode 0b10100110011000100101100111101100 = .instr (.strbtReg .ge false 2 5 19 .ror 12) := by
  decide

/-- R172: P U I W L, 1 S H 1. -/
theorem test_decode_halfword_and_signed :
    decode 0b10110001101100100101000010111100 = .instr (.ldrhRegPre .lt true true 2 5 12)
    ∧ decode 0b11000000000100100101000010111100 = .instr (.ldrhRegPost .gt false 2 5 12)
    ∧ decode 0b11010001010100100101100010110001 = .instr (.ldrhImmPre .le false false 2 5 0x81)
    ∧ decode 0b11100000110100100101100010110001 = .instr (.ldrhImmPost .al true 2 5 0x81)
    ∧ decode 0b00000001101100100101000011011100 = .instr (.ldrsbRegPre .eq true true 2 5 12)
    ∧ decode 0b00010000000100100101000011011100 = .instr (.ldrsbRegPost .ne false 2 5 12)
    ∧ decode 0b00100001010100100101100011010001 = .instr (.ldrsbImmPre .cs false false 2 5 0x81)
    ∧ decode 0b00110000110100100101100011010001 = .instr (.ldrsbImmPost .cc true 2 5 0x81)
    ∧ decode 0b01000001101100100101000011111100 = .instr (.ldrshRegPre .mi true true 2 5 12)
    ∧ decode 0b01010000000100100101000011111100 = .instr (.ldrshRegPost .pl false 2 5 12)
    ∧ decode 0b01100001010100100101100011110001 = .instr (.ldrshImmPre .vs false false 2 5 0x81)
    ∧ decode 0b01110000110100100101100011110001 = .instr (.ldrshImmPost .vc true 2 5 0x81)
    ∧ decode 0b10000001101000100101000010111100 = .instr (.strhRegPre .hi true true 2 5 12)
    ∧ decode 0b10010000000000100101000010111100 = .instr (.strhRegPost .ls false 2 5 12)
    ∧ decode 0b10100001010000100101100010110001 = .instr (.strhImmPre .ge false false 2 5 0x81)
    ∧ decode 0b10110000110000100101100010110001 = .instr (.strhImmPost .lt true 2 5 0x81) := by
  decide

/-- R177: P U S W L. -/
theorem test_decode_block :
    decode 0b11001001001100101000000000000011 = .instr (.ldm .gt true false true 2 0x8003)
    ∧ decode 0b11011000110100101000000000000011 = .instr (.ldmPc .le false true false 2 3)
    ∧ decode 0b11101000010100100100000000000011 = .instr (.ldmUser .al false false false 2 0x4003)
    ∧ decode 0b00001001100000101000000000000011 = .instr (.stm .eq true true false 2 0x8003)
    ∧ decode 0b00011000111000101000000000000011 = .instr (.stmUser .ne false true true 2 0x8003) := by
  decide

/-- R176, R179. -/
theorem test_decode_swap_and_software_interrupt :
    decode 0b00100001000000100101000010011100 = .instr (.swp .cs 2 5 12)
    ∧ decode 0b00110001010000100101000010011100 = .instr (.swpb .cc 2 5 12)
    ∧ decode 0b01001111111100000000000000000010 = .instr (.swi .mi 0xF00002)
    ∧ decode 0b01011111111100000000000000000000 = .instr (.imb .pl)
    ∧ decode 0b01101111111100000000000000000001 = .instr (.imbRange .vs) := by
  decide

/-- R173, R178. -/
theorem test_decode_coprocessor :
    decode 0b01111110101000010010001111000100 = .instr (.cdp .vc 10 1 2 3 6 4)
    ∧ decode 0b10001101010100100101001110000001 = .instr (.ldc .hi true false true false 2 5 3 0x81)
    ∧ decode 0b10011100101000100101001110000001 = .instr (.stc .ls false true false true 2 5 3 0x81)
    ∧ decode 0b10101110101100010101001111010100 = .instr (.mrc .ge 5 1 5 3 6 4)
    ∧ decode 0b10111110101000010101001111010100 = .instr (.mcr .lt 5 1 5 3 6 4) := by
  decide

/-- R180, Table 4-6, one word of each row. -/
theorem test_decode_undefined :
    decode 0b11000110010110000000000100110101 = .instr (.undefinedA .gt 0x6580135)
    ∧ decode 0b11010001001010000000000110000101 = .instr (.undefinedB1 .le 0x1280185)
    ∧ decode 0b11100001010010000000000101000101 = .instr (.undefinedB2 .al 0x1480145)
    ∧ decode 0b00000001011010000000000100100101 = .instr (.undefinedB3 .eq 0x1680125)
    ∧ decode 0b00010001001010000000000101010101 = .instr (.undefinedB4 .ne 0x1280155)
    ∧ decode 0b00100011010010000000000100110101 = .instr (.undefinedB5 .cs 0x3480135)
    ∧ decode 0b00110000011110000000000110010101 = .instr (.undefinedC .cc 0x0780195)
    ∧ decode 0b01000001100110000000000110010101 = .instr (.undefinedD1 .mi 0x1980195)
    ∧ decode 0b01010001011010000000000110010101 = .instr (.undefinedD2 .pl 0x1680195)
    ∧ decode 0b01100001010110000000000110010101 = .instr (.undefinedD3 .vs 0x1580195)
    ∧ decode 0b01110000001010000000000111010101 = .instr (.undefinedE1 .vc 0x02801d5)
    ∧ decode 0b10000000101010000000000110110101 = .instr (.undefinedE2 .hi 0x0a801b5)
    ∧ decode 0b10010001100010000000000111010101 = .instr (.undefinedE3 .ls 0x18801d5)
    ∧ decode 0b10100000010010000000000111110101 = .instr (.undefinedE4 .ge 0x04801f5) := by
  decide

/-- The reserved encodings are rejected by name (R165, R174, R181, R182): condition 1111, MRS with Rn not 1111, MSR with
Rd not 1111, bits 11:8 of SWP and of a register-offset LDRH not 0000. -/
theorem test_decode_reserved :
    decode 0b11110011101000000000000000000001 = .reservedCondition
    ∧ decode 0b11100001000000000101000000000000 = .reserved .al .psrTransfer
    ∧ decode 0b00010001001010010000000000001100 = .reserved .ne .psrTransfer
    ∧ decode 0b11100001000000100101000110011100 = .reserved .al .swap
    ∧ decode 0b11100001100100100101000110111100 = .reserved .al .halfword := by
  decide

/-- The host's reading of a word: the four bytes in the hardware's order, given to the decoder. -/
theorem test_decode_table_word :
    decodeTableWord 32 0xE3A00001 = some (.movImm .al false 0 0 0 1) ∧ decodeTableWord 32 0xF3A00001 = none := by
  decide

/-! ### One step

The words, start states and results are rows of spec/95_test_vectors.md and spec/96_derived_vectors.md, or hand
calculations from the rule named. -/

/-- The machine after reset in a mode, at address 0x8000, where the vectors stand. -/
def inMode (m : Mode) : State := { State.reset with pc := 0x8000, cpsr := { State.reset.cpsr with mode := m } }

/-- Supervisor mode. -/
def svc : State := inMode .svc

/-- User mode with both interrupts enabled. -/
def user : State :=
  { State.reset with pc := 0x8000, cpsr := { State.reset.cpsr with i := false, f := false, mode := .usr } }

/-- Registers of the current mode written. -/
def withRegs (s : State) (l : List (RegNo × Word)) : State := l.foldl (fun t p => writeReg t p.1 p.2) s

/-- N, Z, C and V set. -/
def withFlags (s : State) (f : BitVec 4) : State :=
  { s with cpsr := { s.cpsr with n := f.getLsbD 3, z := f.getLsbD 2, c := f.getLsbD 1, v := f.getLsbD 0 } }

/-- Bytes from an address on. -/
def withBytes (s : State) : Word → List Byte → State
  | _, [] => s
  | a, b :: l => withBytes (setByte s a b) (a + 1) l

/-- Words from an address on. -/
def withWords (s : State) : Word → List Word → State
  | _, [] => s
  | a, w :: l => withWords (setWord s a w) (a + 4) l

/-- Every request in a range aborts. -/
def withAbort (s : State) (kinds : List RequestKind) (first last : Nat) : State :=
  { s with abortMap := [⟨first, last, kinds, none, none, false⟩] }

/-- One step with an instruction word at the PC. -/
def run (s : State) (w : Nat) : Result := step (s.withFetchWord 32 w)

/-- The outcome is a next state of which `p` holds. -/
def gives (r : Result) (p : State → Bool) : Bool :=
  match r with
  | .next t => p t
  | .fault _ => false
  | .refused _ => false

/-- The outcome is this refusal. -/
def refuses (r : Result) (why : Refusal) : Bool :=
  match r with
  | .refused y => y == why
  | .next _ => false
  | .fault _ => false

/-- The outcome is this fault. -/
def faults (r : Result) (why : Fault) : Bool :=
  match r with
  | .fault y => y == why
  | .next _ => false
  | .refused _ => false

/-- N, Z, C and V. -/
def nzcv (s : State) : BitVec 4 :=
  BitVec.ofBool s.cpsr.n ++ BitVec.ofBool s.cpsr.z ++ BitVec.ofBool s.cpsr.c ++ BitVec.ofBool s.cpsr.v

/-- A register of the current mode. -/
def x (s : State) (i : RegNo) : Word := readReg s .d i

/-- A data processing word with R1 and R2 given: R0 and the flags after it. -/
def alu (w : Nat) (f : BitVec 4) (r1 r2 : Word) (r0 : Word) (f2 : BitVec 4) : Bool :=
  gives (run (withFlags (withRegs svc [(1, r1), (2, r2)]) f) w) fun t => x t 0 == r0 && nzcv t == f2 && t.pc == 0x8004

theorem test_add : alu 0xE0910002 0 0x7FFFFFFF 1 0x80000000 0b1001 ∧ alu 0xE0910002 0 0x80000000 0x80000000 0 0b0111
    ∧ alu 0xE0810002 0b1001 0xFFFFFFFF 1 0 0b1001 := by decide
theorem test_adc : alu 0xE0B10002 0b0010 0xFFFFFFFF 0 0 0b0110 ∧ alu 0xE0B10002 0 1 2 3 0 := by decide
theorem test_sub : alu 0xE0510002 0 5 6 0xFFFFFFFF 0b1000 ∧ alu 0xE0510002 0 0x80000000 1 0x7FFFFFFF 0b0011 := by
  decide
theorem test_rsb : alu 0xE0710002 0 1 5 4 0b0010 ∧ alu 0xE2710000 0 0x80000000 0 0x80000000 0b1001 := by decide
theorem test_sbc : alu 0xE0D10002 0 5 3 1 0b0010 ∧ alu 0xE0D10002 0 0 0xFFFFFFFF 0 0b0100 := by decide
theorem test_rsc : alu 0xE0F10002 0 3 5 1 0b0010 ∧ alu 0xE0F10002 0b0010 3 5 2 0b0010 := by decide
theorem test_cmp_cmn : alu 0xE1510002 0 0x80000000 0x7FFFFFFF 0 0b0011 ∧ alu 0xE1710002 0 1 0xFFFFFFFF 0 0b0110 := by
  decide
theorem test_and_eor : alu 0xE0110202 0b0001 0xF0 0x1000000F 0xF0 0b0011
    ∧ alu 0xE0310002 0b1011 0xFFFF0000 0xFFFF0000 0 0b0111 := by decide
theorem test_orr_bic : alu 0xE19100A2 0 0x80000000 3 0x80000001 0b1010
    ∧ alu 0xE1D10002 0b0010 0xFFFFFFFF 0xFFFF 0xFFFF0000 0b1010 := by decide
theorem test_mvn_tst_teq : alu 0xE1F00002 0 0 0xFFFFFFFF 0 0b0100 ∧ alu 0xE3110102 0 0x80000000 0 0 0b1010
    ∧ alu 0xE1310002 0 0x80000000 0 0 0b1000 := by decide

/-- The shifts by an amount in the instruction: LSL #31, LSR #32, ASR #32, ROR #4, RRX. -/
theorem test_shift_by_immediate : alu 0xE1B00F81 0 3 0 0x80000000 0b1010 ∧ alu 0xE1B00021 0 0x80000001 0 0 0b0110
    ∧ alu 0xE1B00041 0 0x80000001 0 0xFFFFFFFF 0b1010 ∧ alu 0xE1B00261 0 0x1234567F 0 0xF1234567 0b1010
    ∧ alu 0xE1B00061 0b0010 2 0 0x80000001 0b1000 := by decide

/-- The shifts by a register: LSL 32 and 256, LSR 33, ASR 255, ROR 32 and 33. -/
theorem test_shift_by_register : alu 0xE1B00211 0 0x80000001 32 0 0b0110
    ∧ alu 0xE1B00211 0b0010 0x80000001 256 0x80000001 0b1010 ∧ alu 0xE1B00231 0 0x80000001 33 0 0b0100
    ∧ alu 0xE1B00251 0 0x80000001 255 0xFFFFFFFF 0b1010 ∧ alu 0xE1B00271 0 0x80000001 32 0x80000001 0b1010
    ∧ alu 0xE1B00271 0 0x80000001 33 0xC0000000 0b1010 := by decide

/-- Rotated immediates: a rotation gives a carry, none keeps C. -/
theorem test_immediate : alu 0xE3B004FF 0 0 0 0xFF000000 0b1010 ∧ alu 0xE3B000FF 0b0010 0 0 0xFF 0b0010 := by decide

/-- R15 as an operand and as a destination. -/
theorem test_mov_r15 : alu 0xE28F0004 0 0 0 0x800C 0
    ∧ gives (run (withRegs svc [(14, 0x9003)]) 0xE1A0F00E) (fun t => t.pc == 0x9000 && t.cpsr == svc.cpsr) := by decide

/-- SUBS PC,R14,#4 in IRQ mode: the flags come from the SPSR. In User mode it is refused. -/
theorem test_return_from_exception :
    gives (run { withRegs (inMode .irq) [(14, 0x805C)] with
        spsr := { State.reset.spsr with irq := ⟨true, false, false, false, false, false, 0b11111⟩ } } 0xE25EF004)
      (fun t => t.pc == 0x8058 && t.cpsr == ⟨true, false, false, false, false, false, .sys⟩)
    ∧ refuses (run user 0xE25EF004) .returnWithoutSpsr := by decide

/-- The SPSR of Supervisor mode holds SVC26: entered at an address of the 26-bit space, refused above it (R82). -/
theorem test_return_into_26_bit_mode :
    gives (run { inMode .svc with spsr := { State.reset.spsr with svc := { Psr.zero with m := 0b00011 } } } 0xE25EF004)
      (fun t => t.cpsr.mode == .svc26 && t.pc == 0x03FFFFFC)
    ∧ refuses (run { inMode .svc with
        pc := 0x04000000, spsr := { State.reset.spsr with svc := { Psr.zero with m := 0b00011 } } } 0xE25EF004)
      .enter26Outside := by decide

/-- A condition that fails: nothing but the PC, for a word that would trap too. -/
theorem test_condition_fails : gives (run (withFlags svc 0b0100) 0x1F000001) (fun t => t.pc == 0x8004 && t.cpsr.mode == .svc)
    ∧ gives (run svc 0x06000010) (fun t => t.pc == 0x8004) ∧ refuses (run svc 0xF3A00001) .reservedCondition := by decide

theorem test_branch : gives (run svc 0xEAFFFFFE) (fun t => t.pc == 0x8000)
    ∧ gives (run svc 0xEA800000) (fun t => t.pc == 0xFE008008)
    ∧ gives (run (inMode .fiq) 0xEB000000) (fun t => t.pc == 0x8008 && t.regs.r14.fiq == 0x8004 && t.regs.r14.usr == 0) := by
  decide

theorem test_msr_cpsr : gives (run (withRegs svc [(1, 0xF0000010)]) 0xE121F001)
      (fun t => nzcv t == 0 && t.cpsr.mode == .usr && !t.cpsr.i)
    ∧ gives (run (withRegs user [(1, 0xF00000D3)]) 0xE129F001) (fun t => nzcv t == 0b1111 && t.cpsr.mode == .usr)
    ∧ refuses (run (withRegs svc [(1, 0x14)]) 0xE121F001) .invalidMode := by decide

theorem test_msr_spsr : gives (run (withRegs svc [(1, 0xF00000FF)]) 0xE169F001)
      (fun t => t.spsr.svc == ⟨true, true, true, true, true, true, 0b11111⟩)
    ∧ gives (run (inMode .irq) 0xE368F103) (fun t => t.spsr.irq == ⟨true, true, false, false, false, false, 0⟩) := by decide

theorem test_mrs : gives (run user 0xE10F2000) (fun t => t.pc == 0x8004 && t.cpsr == user.cpsr)
    ∧ refuses (run user 0xE14F2000) .spsrAbsent := by decide

theorem test_mul_mla : gives (run (withRegs svc [(2, 7), (3, 6)]) 0xE0010392) (fun t => x t 1 == 42)
    ∧ gives (run (withRegs svc [(2, 3), (3, 4), (4, 0xFFFFFFFF)]) 0xE0214392) (fun t => x t 1 == 11)
    ∧ refuses (run svc 0xE0010391) .multiplyOperands := by decide

theorem test_long_multiplies :
    gives (run (withRegs svc [(2, 0xFFFFFFF6), (3, 20)]) 0xE0841392) (fun t => x t 4 == 0x13 && x t 1 == 0xFFFFFF38)
    ∧ gives (run (withRegs svc [(2, 0xFFFFFFF6), (3, 20)]) 0xE0C41392)
      (fun t => x t 4 == 0xFFFFFFFF && x t 1 == 0xFFFFFF38)
    ∧ gives (run (withRegs svc [(0, 0xFFFFFFFF), (2, 0xFFFFFFFF), (3, 0xFFFFFFFF)]) 0xE0A10392)
      (fun t => x t 0 == 0 && x t 1 == 0xFFFFFFFF)
    ∧ gives (run (withRegs svc [(0, 1), (2, 0xFFFFFFFF), (3, 2)]) 0xE0E10392)
      (fun t => x t 0 == 0xFFFFFFFF && x t 1 == 0xFFFFFFFF) := by decide

/-- The bytes the single transfer vectors stand on. -/
def bytes : State := withBytes svc 0x1000 [0x11, 0x22, 0x33, 0x44, 0x55, 0x66, 0x77, 0x88, 0x99, 0xAA, 0xBB, 0xCC]

theorem test_ldr : gives (run (withRegs bytes [(1, 0x1001)]) 0xE5910000) (fun t => x t 0 == 0x11443322)
    ∧ gives (run { withRegs bytes [(1, 0x1001)] with bigend := true } 0xE5910000) (fun t => x t 0 == 0x44112233)
    ∧ gives (run (withRegs bytes [(1, 0x100C), (2, 8)]) 0xE73100C2) (fun t => x t 0 == 0xCCBBAA99 && x t 1 == 0x1008)
    ∧ gives (run (withRegs bytes [(1, 0x1000)]) 0xE4910004) (fun t => x t 0 == 0x44332211 && x t 1 == 0x1004) := by decide
theorem test_ldr_r15 : gives (run (withRegs bytes [(1, 0x1000)]) 0xE591F000) (fun t => t.pc == 0x44332210)
    ∧ refuses (run (withRegs bytes [(1, 0x1001)]) 0xE591F000) .misalignedPcTransfer
    ∧ refuses (run svc 0xE4911004) .loadWriteBackToDestination := by decide
theorem test_ldrb : gives (run (withRegs bytes [(1, 0x1003)]) 0xE5D10000) (fun t => x t 0 == 0x44) := by decide
theorem test_str : gives (run (withRegs bytes [(0, 0xDEADBEEF), (1, 0x1006)]) 0xE5810000)
      (fun t => wordAt t 0x1004 == 0xDEADBEEF && byteAt t 0x1004 == 0xEF && byteAt t 0x1008 == 0x99)
    ∧ gives (run (withRegs bytes [(0, 0xCAFEF00D), (1, 0x1008)]) 0xE5210004)
      (fun t => wordAt t 0x1004 == 0xCAFEF00D && x t 1 == 0x1004)
    ∧ gives (run (withRegs bytes [(1, 0x1000)]) 0xE581F000) (fun t => wordAt t 0x1000 == 0x8008) := by decide
theorem test_strb : gives (run (withRegs bytes [(0, 0x1FF), (1, 0x100B)]) 0xE4C10001)
    (fun t => byteAt t 0x100B == 0xFF && byteAt t 0x100A == 0xBB && x t 1 == 0x100C) := by decide

/-- A T form in a privileged mode makes an unprivileged access: a region that aborts those aborts it only. -/
theorem test_ldrt : gives (run { withRegs bytes [(1, 0x1000)] with
        abortMap := [⟨0x1000, 0x1FFF, [.load], some false, none, false⟩] } 0xE4B10004) (fun t => t.cpsr.mode == .abt)
    ∧ gives (run { withRegs bytes [(1, 0x1000)] with
        abortMap := [⟨0x1000, 0x1FFF, [.load], some false, none, false⟩] } 0xE4910004) (fun t => x t 0 == 0x44332211) := by
  decide

/-- The bytes the halfword vectors stand on. -/
def halves : State := withBytes svc 0x1000 [0x11, 0x82, 0x33, 0xF4, 0x55, 0x66, 0x77, 0x88]

theorem test_ldrh_ldrsh : gives (run (withRegs halves [(1, 0x1000)]) 0xE1D100B2) (fun t => x t 0 == 0xF433)
    ∧ gives (run (withRegs halves [(1, 0x1002), (2, 0x100)]) 0xE09100F2) (fun t => x t 0 == 0xFFFFF433 && x t 1 == 0x1102)
    ∧ gives (run { withRegs halves [(1, 0x1000)] with bigend := true } 0xE1D100F2) (fun t => x t 0 == 0x33F4) := by decide
theorem test_ldrsb : gives (run (withRegs halves [(1, 0x1100)]) 0xE1510FDF)
    (fun t => x t 0 == 0xFFFFFF82 && x t 1 == 0x1100) := by decide
theorem test_strh : gives (run (withRegs halves [(0, 0x1234ABCD), (1, 0x1004)]) 0xE16100B2)
      (fun t => byteAt t 0x1002 == 0xCD && byteAt t 0x1003 == 0xAB && byteAt t 0x1004 == 0x55 && x t 1 == 0x1002)
    ∧ refuses (run (withRegs halves [(1, 0x1001)]) 0xE1C100B0) .misalignedHalfwordStore := by decide

/-- The words the block vectors stand on. -/
def block : State :=
  withRegs (withWords svc 0xFF0 [0xA0, 0xA1, 0xA2, 0xA3, 0xA4, 0xA5, 0xA6, 0xA7, 0xA8, 0xA9, 0xAA, 0xAB])
    [(0, 0x1000), (1, 0x11111111), (5, 0x55555555), (7, 0x77777777)]

theorem test_ldm : gives (run block 0xE9B000A2) (fun t => x t 0 == 0x100C && x t 1 == 0xA5 && x t 5 == 0xA6 && x t 7 == 0xA7)
    ∧ gives (run block 0xE83000A2) (fun t => x t 0 == 0xFF4 && x t 1 == 0xA2 && x t 5 == 0xA3 && x t 7 == 0xA4)
    ∧ gives (run block 0xE8908002) (fun t => x t 1 == 0xA4 && t.pc == 0xA4) := by decide
theorem test_ldm_return : gives (run { withRegs block [(13, 0x1000)] with
        spsr := { State.reset.spsr with svc := ⟨false, true, true, false, false, false, 0b10000⟩ } } 0xE8FD8002)
      (fun t => t.regs.r13.svc == 0x1008 && t.pc == 0xA4 && t.cpsr == ⟨false, true, true, false, false, false, .usr⟩)
    ∧ refuses (run user 0xE8FD8002) .blockSBitWithoutSpsr := by decide
theorem test_ldm_user : gives (run (withRegs block [(13, 0x3333), (14, 0x4444)]) 0xE8D06000)
    (fun t => t.regs.r13.usr == 0xA4 && t.regs.r14.usr == 0xA5 && t.regs.r13.svc == 0x3333 && t.regs.r14.svc == 0x4444) := by
  decide
theorem test_stm : gives (run block 0xE9A000A2) (fun t => x t 0 == 0x100C && wordAt t 0x1004 == 0x11111111
      && wordAt t 0x1008 == 0x55555555 && wordAt t 0x100C == 0x77777777 && wordAt t 0x1000 == 0xA4)
    ∧ gives (run block 0xE8A00003) (fun t => x t 0 == 0x1008 && wordAt t 0x1000 == 0x1000 && wordAt t 0x1004 == 0x11111111) := by
  decide
theorem test_stm_user : gives (run (writeUserReg (withRegs block [(13, 0x3333)]) 13 0xD) 0xE8C06000)
    (fun t => wordAt t 0x1000 == 0xD && wordAt t 0x1004 == 0) := by decide

theorem test_swap : gives (run (withRegs bytes [(1, 0xDEADBEEF), (2, 0x1001)]) 0xE1020091)
      (fun t => x t 0 == 0x11443322 && wordAt t 0x1000 == 0xDEADBEEF)
    ∧ gives (run (withRegs bytes [(1, 0xDEADBEEF), (2, 0x1002)]) 0xE1420091)
      (fun t => x t 0 == 0x33 && byteAt t 0x1002 == 0xEF && byteAt t 0x1003 == 0x44)
    ∧ gives (run (withRegs bytes [(0, 0xCAFEF00D), (1, 0x1004)]) 0xE1010090)
      (fun t => x t 0 == 0x88776655 && wordAt t 0x1004 == 0xCAFEF00D) := by decide

theorem test_swi : gives (run (withFlags user 0b0110) 0xEF123456) (fun t => t.pc == 8 && t.regs.r14.svc == 0x8004
      && t.spsr.svc == ⟨false, true, true, false, false, false, 0b10000⟩
      && t.cpsr == ⟨false, true, true, false, true, false, .svc⟩)
    ∧ gives (run { user with stale := [0x100] } 0xEFF00000) (fun t => t.pc == 8 && t.stale == []) := by decide

theorem test_undefined : gives (run (withFlags user 0b1000) 0xE6000010)
      (fun t => t.pc == 4 && t.regs.r14.und == 0x8004 && t.cpsr == ⟨true, false, false, false, true, false, .und⟩)
    ∧ gives (run user 0xE0400090) (fun t => t.pc == 4) ∧ gives (run user 0xE02000B0) (fun t => t.pc == 4)
    ∧ refuses (run { user with trapClassesBtoE := false } 0xE1200090) .unallocatedTrapDisabled := by decide

theorem test_coprocessor_bounce : gives (run user 0xEEA21103) (fun t => t.pc == 4)
    ∧ gives (run { user with coproc := [⟨some 1, .bounce⟩] } 0xED9F2100)
      (fun t => t.pc == 0x8000 && t.coproc == [⟨some 0, .bounce⟩] && t.nextFetch == .held)
    ∧ gives (run { user with coproc := [⟨none, .bounce⟩] } 0xED9F2100)
      (fun t => t.pc == 0x8000 && t.coproc == [⟨none, .bounce⟩] && t.nextFetch == .held) := by
  decide

/-- A present coprocessor 15 that accepts the next instruction offered to it with the word `d`. -/
def accepting (s : State) (d : Word) : State := { s with coproc := [⟨some 0, .accept d⟩], presentCps := [15] }

theorem test_mrc : gives (run (accepting user 0x800) 0xEE110F10) (fun t => x t 0 == 0x800 && nzcv t == 0)
    ∧ gives (run (accepting (withFlags user 0b1111) 0x800) 0xEE11FF10) (fun t => nzcv t == 0 && t.pc == 0x8004)
    ∧ refuses (run { accepting user 0x800 with presentCps := [14] } 0xEE110F10) .absentCoprocessorAccepted := by
  decide
theorem test_mcr : gives (run (accepting (withRegs user [(0, 7)]) 0) 0xEE010F10)
      (fun t => t.controlLog == [7] && t.coprocLog == [⟨0x2010F10, false, some 7⟩])
    ∧ refuses (run (accepting user 0) 0xEE01FF10) .mcrFromR15 := by decide

/-- A Data Abort leaves the base as it was; an STM keeps the stores before it. -/
theorem test_data_abort :
    gives (run (withAbort (withRegs user [(0, 7), (1, 0x2000)]) [.load] 0x2004 0x2007) 0xE5B10004)
      (fun t => t.pc == 0x10 && t.regs.r14.abt == 0x8008 && t.regs.low[0] == 7 && t.regs.low[1] == 0x2000 && t.cpsr.mode == .abt)
    ∧ gives (run (withAbort (withRegs user [(0, 0x2000), (1, 1), (2, 2), (3, 3)]) [.storeS] 0x2008 0x200B) 0xE8A0000E)
      (fun t => t.pc == 0x10 && t.regs.low[0] == 0x2000 && wordAt t 0x2000 == 1 && wordAt t 0x2004 == 2 && wordAt t 0x2008 == 0) := by
  decide

/-- A region that aborts the two non-sequential fetches, speculative or not, at the PC. -/
def fetchAborted : State := withAbort user [.fetch, .spec] 0x8000 0x8003

/-- The same instruction reached by a sequential fetch, which is another request. -/
def fetchSequential : State := { fetchAborted with nextFetch := .sequential }

theorem fetchAborted_aborts : fetchAborts fetchAborted = true := by
  unfold fetchAborts fetchRequest
  cases Config.freeBit fetchAborted.tick .speculativeFetch <;> rfl

theorem fetchSequential_does_not_abort : fetchAborts fetchSequential = false := by
  unfold fetchAborts fetchRequest
  cases Config.freeBit fetchSequential.tick .speculativeFetch <;> rfl

theorem test_prefetch_abort : gives (step fetchAborted)
    (fun t => t.pc == 0x0C && t.regs.r14.abt == 0x8004 && t.cpsr.mode == .abt && t.cpsr.i && !t.cpsr.f) := by
  unfold step cycle runInstruction
  rw [fetchAborted_aborts]
  decide

theorem test_sequential_fetch : gives (step fetchSequential) (fun t => t.pc == 0x8004) := by
  unfold step cycle runInstruction
  rw [fetchSequential_does_not_abort]
  decide

/-- FIQ comes before IRQ; a masked IRQ waits; a FIQ follows a Data Abort at once. -/
theorem test_interrupts :
    gives (run { user with lines := [⟨false, false, true⟩] } 0xE3A00001)
      (fun t => t.pc == 0x18 && t.regs.r14.irq == 0x8008 && t.regs.low[0] == 1 && t.cpsr.i && !t.cpsr.f)
    ∧ gives (run { user with lines := [⟨false, true, true⟩] } 0xE3A00001)
      (fun t => t.pc == 0x1C && t.regs.r14.fiq == 0x8008 && t.cpsr.i && t.cpsr.f)
    ∧ gives (run { svc with lines := [⟨false, true, true⟩] } 0xE3A00001) (fun t => t.pc == 0x8004) := by decide
theorem test_fiq_after_data_abort :
    gives (run { withAbort user [.load] 0 3 with lines := [⟨false, true, false⟩] } 0xE5910000)
      (fun t => t.pc == 0x1C && t.regs.r14.abt == 0x8008 && t.regs.r14.fiq == 0x14 && t.spsr.fiq.m == 0b10111) := by decide

/-- `nReset` LOW, held, and HIGH again. -/
theorem test_reset :
    gives (run { user with lines := [⟨true, false, false⟩] } 0xE3A00001) (fun t => t.inReset)
    ∧ gives (run { accepting user 7 with lines := [⟨true, false, false⟩] } 0xEE010F10)
      (fun t => t.inReset && t.controlLog == [] && t.coprocLog == [])
    ∧ gives (step { user with inReset := true, lines := [⟨true, false, false⟩] }) (fun t => t.inReset && t.pc == 0x8000)
    ∧ gives (step { user with inReset := true }) (fun t => t.pc == 0 && t.cpsr.mode == .svc && t.cpsr.i && t.cpsr.f) := by
  decide

/-- A stale word faults; an IMB frees it. In a 26-bit mode TEQP writes the PSR and R15 is no operand. -/
theorem test_stale : faults (step { svc with stale := [0x8000] }) .staleInstruction := by decide
theorem test_26_bit : gives (run (withRegs (inMode .svc26) [(1, 0xF0000001)]) 0xE331F000)
      (fun t => nzcv t == 0b1111 && t.cpsr.mode == .fiq26 && !t.cpsr.i && t.pc == 0x8004)
    ∧ refuses (run (inMode .svc26) 0xE1A0000F) .r15ReadIn26BitMode
    ∧ refuses (run { inMode .svc with pc := 0x04000000 } 0xE321F003) .enter26Outside
    ∧ gives (run (inMode .svc) 0xE321F003) (fun t => t.cpsr.mode == .svc26 && t.imbOwed == [0x8004])
    ∧ faults (step { inMode .svc26 with imbOwed := [0x8000] }) .modeChangeWithoutImb := by decide

/-- An IRQ straight after the MSR is no IMB: the debt waits for the return (R129). -/
theorem test_imb_after_interrupt :
    gives (run { inMode .svc with lines := [⟨false, false, true⟩] } 0xE321F003)
      (fun t => t.cpsr.mode == .irq && t.pc == 0x18 && t.regs.r14.irq == 0x8008 && t.imbOwed == [0x8004]) := by decide

/-! ### Witnesses

For every statement with hypotheses, states and operands that meet them, each clause at a boundary of its range. -/

open Sys2Proof.Claims

/-- A 26-bit mode at the last address from which the next instruction still follows (`Fits`). -/
def edge26 : State := { inMode .svc26 with pc := 0x03FFFFF8 }

theorem witness_RegisterBanks : reg svc 13 = some (.r13 .svc) ∧ hazardNow svc = false ∧ physReg .usr 8 = some (.mid 0)
    ∧ (14 : RegNo) ≠ 15 := by
  refine ⟨rfl, rfl, rfl, by decide⟩

/-- The word of 26-bit code from which no instruction follows. -/
def last26 : State := { inMode .svc26 with pc := 0x03FFFFFC }

theorem witness_ConditionPassed : field (0xF3A00001 : Word) 28 4 = 0b1111 ∧ edge26.pc ∉ edge26.imbOwed
    ∧ conditionPassed .al edge26.cpsr = true ∧ conditionPassed .eq edge26.cpsr = false ∧ Fits edge26 := by
  unfold Fits; decide

/-- In either address space, at the last word from which the next follows, and at the one from which none does; the second
clause with the MOV that goes on at the edge. -/
theorem witness_FailedConditionOnlyAdvances :
    (conditionPassed (Instr.swi .eq 5).cond svc.cpsr = false ∧ Fits svc)
    ∧ (conditionPassed (Instr.b .eq 0).cond edge26.cpsr = false ∧ Fits edge26)
    ∧ (conditionPassed (Instr.b .eq 0).cond last26.cpsr = false ∧ ¬ Fits last26)
    ∧ ∃ t, exec (.movImm .al false 0 0 0 1) edge26 = .next t ∧ t.nextFetch = .sequential :=
  ⟨⟨rfl, by unfold Fits; decide⟩, ⟨rfl, by unfold Fits; decide⟩, ⟨rfl, by unfold Fits; decide⟩, _, rfl, rfl⟩

/-- R15 as Rn and Rm in a 32-bit mode; R14 at the edge of the 26-bit space; and the two forms with R15 excluded. -/
theorem witness_ArithmeticResult : (conditionPassed .al svc.cpsr = true ∧ (14 : RegNo) ≠ 15
      ∧ Readable svc .sub 15 (.shiftImm 0 .lsl 15) ∧ Fits svc)
    ∧ (Readable edge26 .add 14 (.imm 15 255) ∧ Fits edge26) ∧ Readable svc .adc 14 (.shiftReg 14 .ror 14) := by
  dsimp only [Readable, readsRn, Fits]; decide

theorem witness_LogicalResult : (conditionPassed .al svc.cpsr = true ∧ (0 : RegNo) ≠ 15
      ∧ Readable svc .mov 15 (.shiftReg 14 .asr 14) ∧ Fits svc) ∧ Readable edge26 .mvn 15 (.imm 0 0) ∧ Fits edge26 := by
  dsimp only [Readable, readsRn, Fits]; decide

theorem witness_TestFlags : AluOp.cmn ∈ [AluOp.tst, .teq, .cmp, .cmn] ∧ conditionPassed .al svc.cpsr = true
    ∧ (14 : RegNo) ≠ 15 ∧ Readable svc .cmn 15 (.imm 0 0) ∧ Fits svc := by
  dsimp only [Readable, readsRn, Fits]; decide

theorem witness_AluJump : AluOp.mvn ∈ [AluOp.and, .eor, .sub, .rsb, .add, .adc, .sbc, .rsc, .orr, .mov, .bic, .mvn]
    ∧ conditionPassed .al svc.cpsr = true ∧ Readable svc .mvn 0 (.shiftImm 0 .lsl 14) ∧ Readable edge26 .mvn 0 (.imm 0 0) := by
  dsimp only [Readable, readsRn]; decide

/-- User mode, a mode whose SPSR holds a valid mode, here a 26-bit one, with the instruction at the last address that may
enter it and at the first that may not, and one whose SPSR holds an invalid mode. -/
theorem witness_AluReturn : (is26 user.cpsr.mode = false ∧ noSpsr user.cpsr.mode ∧ Readable user .sub 14 (.imm 0 4))
    ∧ (getSpsr svc (modeBank svc.cpsr.mode) = some Psr.zero ∧ CpsrOf Psr.zero ⟨false, false, false, false, false, false, .usr26⟩)
    ∧ (is26 .usr26 = true ∧ ({ svc with pc := 0x03FFFFFC } : State).pc.toNat ≤ 0x03FFFFFF
      ∧ 0x03FFFFFF < ({ svc with pc := 0x04000000 } : State).pc.toNat)
    ∧ ∀ q, ¬ CpsrOf { Psr.zero with m := 0b00100 } q := by
  refine ⟨?_, ⟨rfl, ?_⟩, by decide, ?_⟩
  · dsimp only [noSpsr, Readable, readsRn]; decide
  · unfold CpsrOf; decide
  · intro q h
    have h2 : modeBits q.mode = 0b00100 := h.2.2.2.2.2.2
    revert h2
    cases q.mode <;> decide

theorem witness_PsrForms26 : conditionPassed .al edge26.cpsr = true ∧ is26 edge26.cpsr.mode = true
    ∧ Readable edge26 .teq 14 (.imm 0 3) ∧ Readable edge26 .mov 15 (.shiftImm 0 .lsl 14) ∧ Fits edge26
    ∧ AluOp.teq ∈ [AluOp.tst, .teq, .cmp, .cmn] ∧ AluOp.mov ∉ [AluOp.tst, .teq, .cmp, .cmn] := by
  dsimp only [Readable, readsRn, Fits]; decide

theorem witness_AluRefused : conditionPassed .al svc.cpsr = true ∧ (readsRn .add ∧ (15 : RegNo) = 15)
    ∧ Readable svc .teq 15 (.imm 0 3) ∧ AluOp.teq ∈ [AluOp.tst, .teq, .cmp, .cmn] ∧ is26 svc.cpsr.mode = false := by
  dsimp only [Readable, readsRn]; decide

theorem witness_ShiftByImmediate : (1 ≤ 1 ∧ 1 ≤ 31) ∧ 1 ≤ 31 ∧ 31 ≤ 31 := by decide

theorem witness_ShiftByRegister : ((1 ≤ 1 ∧ 1 ≤ 31) ∧ 1 ≤ 31 ∧ 31 ≤ 31) ∧ 33 ≤ 33 ∧ 33 ≤ 255 ∧ 32 ≤ 32
    ∧ Readable svc .mvn 15 (.shiftReg 14 .asr 14) := by
  dsimp only [Readable, readsRn]; decide

theorem witness_ImmediateOperand : (0 : BitVec 4) = 0 ∧ (1 : BitVec 4) ≠ 0 ∧ (15 : BitVec 4) ≠ 0 := by decide

theorem witness_Branch : conditionPassed .al svc.cpsr = true ∧ conditionPassed .ne edge26.cpsr = true := by decide

theorem witness_BranchWithLink : conditionPassed .al svc.cpsr = true ∧ is26 svc.cpsr.mode = false
    ∧ conditionPassed .ne edge26.cpsr = true := by decide

theorem witness_MoveFromPsr : conditionPassed .al svc.cpsr = true ∧ (14 : RegNo) ≠ 15 ∧ Fits svc ∧ noSpsr user.cpsr.mode
    ∧ getSpsr svc (modeBank svc.cpsr.mode) = some Psr.zero := by
  dsimp only [Fits, noSpsr]; decide

/-- R15 as the source; User mode with the control bit; an invalid mode; a mode kept; 26-bit mode entered at the last
address that lets it and refused at the first that does not. -/
theorem witness_MoveToCpsr : conditionPassed .al svc.cpsr = true ∧ msrWord svc (.reg 15) = none
    ∧ msrWord user (.reg 14) = some 0 ∧ isPrivileged user.cpsr.mode = false ∧ Fits user
    ∧ isPrivileged svc.cpsr.mode = true ∧ (∀ m, modeBits m ≠ (0x14 : Word).extractLsb' 0 5)
    ∧ modeBits .svc26 = (3 : Word).extractLsb' 0 5 ∧ (is26 .svc26 != is26 svc.cpsr.mode) = true
    ∧ (0x03FFFFFF < ({ svc with pc := 0x04000000 } : State).pc.toNat)
    ∧ (({ svc with pc := 0x03FFFFF8 } : State).pc.toNat ≤ 0x03FFFFFF ∧ ({ svc with pc := 0x03FFFFF8 } : State).pc ≠ 0x03FFFFFC)
    ∧ (is26 .usr != is26 svc.cpsr.mode) = false := by
  refine ⟨by decide, rfl, rfl, rfl, by unfold Fits; decide, rfl, ?_, by decide, rfl, by decide, by decide, rfl⟩
  intro m; cases m <;> decide

theorem witness_MoveToSpsr : conditionPassed .al svc.cpsr = true ∧ msrWord svc (.reg 15) = none
    ∧ msrWord svc (.imm 4 15) = some 0x0F000000 ∧ noSpsr user.cpsr.mode
    ∧ getSpsr svc (modeBank svc.cpsr.mode) = some Psr.zero ∧ Fits svc := by
  dsimp only [noSpsr, Fits, msrWord]; decide

theorem witness_Multiply : conditionPassed .al svc.cpsr = true ∧ (1 : RegNo) = 1
    ∧ ((14 : RegNo) ≠ 13 ∧ (14 : RegNo) ≠ 15 ∧ (13 : RegNo) ≠ 15 ∧ Fits svc) := by
  unfold Fits; decide

theorem witness_MultiplyLong : conditionPassed .al svc.cpsr = true
    ∧ ((14 : RegNo) ≠ 15 ∧ (13 : RegNo) ≠ 15 ∧ (12 : RegNo) ≠ 15 ∧ (14 : RegNo) ≠ 13 ∧ (14 : RegNo) ≠ 12
      ∧ (13 : RegNo) ≠ 12 ∧ Fits svc) := by
  unfold Fits; decide

/-- A region that aborts a load of the byte, the word and the halfword at one address. -/
def aborting : State := withAbort (withRegs svc [(1, 0x1000)])
  [.load, .loadB, .loadH, .loadX, .loadBX, .store, .storeB, .storeH, .storeX, .storeBX] 0x1000 0x1000

/-- LDR in its clauses: aborted, into a register, into R15; with write-back and with a base of R15. -/
theorem witness_LoadWord_aborted : conditionPassed .al svc.cpsr = true
    ∧ SingleAllowed aborting .ldr true 1 0 (.pre true) (.imm 0)
    ∧ requestAborts aborting .load (accessPrivileged aborting (.pre true)) (singleAddress aborting true 1 (.pre true) (.imm 0))
      = true := by
  dsimp only [SingleAllowed, SingleForbidden]; decide

theorem witness_LoadWord_register : SingleAllowed svc .ldr true 15 14 (.pre false) (.reg 0 .ror 14)
    ∧ requestAborts svc .load true (singleAddress svc true 15 (.pre false) (.reg 0 .ror 14)) = false ∧ (14 : RegNo) ≠ 15
    ∧ Fits svc := by
  dsimp only [SingleAllowed, SingleForbidden, Fits]; decide

theorem witness_LoadWord_jump : SingleAllowed edge26 .ldr false 14 15 .user (.imm 4095)
    ∧ requestAborts edge26 .load false (singleAddress edge26 false 14 .user (.imm 4095)) = false := by
  dsimp only [SingleAllowed, SingleForbidden]; decide

theorem witness_LoadByte : conditionPassed .al svc.cpsr = true
    ∧ (SingleAllowed aborting .ldrb true 1 0 .post (.imm 4)
      ∧ requestAborts aborting .loadB true (singleAddress aborting true 1 .post (.imm 4)) = true)
    ∧ SingleAllowed svc .ldrb false 15 14 (.pre false) (.imm 0)
    ∧ requestAborts svc .loadB true (singleAddress svc false 15 (.pre false) (.imm 0)) = false ∧ Fits svc := by
  dsimp only [SingleAllowed, SingleForbidden, Fits]; decide

theorem witness_StoreWord_aborted : conditionPassed .al svc.cpsr = true
    ∧ SingleAllowed aborting .str true 1 0 .post (.imm 4)
    ∧ requestAborts aborting .store true (singleAddress aborting true 1 .post (.imm 4)) = true := by
  dsimp only [SingleAllowed, SingleForbidden]; decide

/-- The stored register is the base written back, whose value is unstated; and R15 stored through R15. -/
theorem witness_StoreWord : SingleAllowed svc .str true 14 14 (.pre true) (.imm 4)
    ∧ SingleAllowed svc .str true 15 15 (.pre false) (.imm 4)
    ∧ requestAborts svc .store true (singleAddress svc true 15 (.pre false) (.imm 4)) = false ∧ Fits svc := by
  dsimp only [SingleAllowed, SingleForbidden, Fits]; decide

theorem witness_StoreByte : conditionPassed .al svc.cpsr = true
    ∧ (SingleAllowed aborting .strb true 1 0 .post (.imm 4)
      ∧ requestAborts aborting .storeB true (singleAddress aborting true 1 .post (.imm 4)) = true)
    ∧ SingleAllowed edge26 .strb true 14 14 .user (.reg 31 .lsl 13)
    ∧ requestAborts edge26 .storeB false (singleAddress edge26 true 14 .user (.reg 31 .lsl 13)) = false ∧ Fits edge26 := by
  dsimp only [SingleAllowed, SingleForbidden, Fits]; decide

/-- An even address, whose value is fixed, and an odd one, whose value is free. -/
theorem witness_LoadHalfOrSigned : HalfKind.ldrh ≠ .strh ∧ conditionPassed .al svc.cpsr = true
    ∧ (HalfAllowed aborting .ldrh true 1 0 none (.imm 2)
      ∧ requestAborts aborting (halfRequest .ldrh) true (halfAddress aborting true 1 none (.imm 2)) = true)
    ∧ (HalfAllowed svc .ldrsh true 15 14 (some false) (.imm 0) ∧ (halfAddress svc true 15 (some false) (.imm 0)).toNat % 2 = 0)
    ∧ (HalfAllowed svc .ldrh true 15 14 (some false) (.imm 255)
      ∧ (halfAddress svc true 15 (some false) (.imm 255)).toNat % 2 = 1
      ∧ requestAborts svc .loadH true (halfAddress svc true 15 (some false) (.imm 255)) = false ∧ Fits svc) := by
  dsimp only [HalfAllowed, HalfForbidden, Fits]; decide

theorem witness_StoreHalf : conditionPassed .al svc.cpsr = true
    ∧ (HalfAllowed aborting .strh true 1 0 none (.imm 2)
      ∧ requestAborts aborting .storeH true (halfAddress aborting true 1 none (.imm 2)) = true)
    ∧ HalfAllowed svc .strh true 14 13 (some true) (.reg 12)
    ∧ requestAborts svc .storeH true (halfAddress svc true 14 (some true) (.reg 12)) = false ∧ Fits svc := by
  dsimp only [HalfAllowed, HalfForbidden, Fits]; decide

theorem witness_TransferRefused_load : conditionPassed .al svc.cpsr = true
    ∧ SingleForbidden svc .ldr true 15 0 .post (.imm 0) ∧ SingleForbidden svc .ldr true 1 1 (.pre true) (.imm 0)
    ∧ SingleForbidden svc .ldr true 1 0 .user (.reg 0 .lsl 1) := by
  dsimp only [SingleForbidden]; decide

theorem witness_TransferRefused_store : SingleForbidden svc .strb true 1 15 (.pre false) (.imm 0)
    ∧ SingleForbidden svc .str true 1 15 (.pre false) (.imm 3) := by
  dsimp only [SingleForbidden]; decide

theorem witness_TransferRefused_half : HalfForbidden svc .ldrh true 1 15 none (.imm 0)
    ∧ HalfForbidden svc .strh true 1 0 (some false) (.imm 1) ∧ HalfForbidden svc .ldrsb true 1 0 (some false) (.reg 15) := by
  dsimp only [HalfForbidden]; decide

theorem witness_TransferAddresses : (0 ≤ 16 ∧ 16 ≤ 16) := by decide

/-- One register and all sixteen; with write-back and without; no transfer aborts. -/
theorem witness_LoadMultiple : conditionPassed .al svc.cpsr = true ∧ (14 : RegNo) ≠ 15
    ∧ ((1 : BitVec 16) ≠ 0 ∧ ¬ (true = true ∧ (1 : BitVec 16).getLsbD (14 : RegNo).toNat = true)
      ∧ (∀ k < (registerList 1).length, ¬ ReadAborts svc (firstOf svc true true 14 1) (registerList 1).length k)
      ∧ (1 : BitVec 16).getLsbD 15 = false ∧ Fits svc)
    ∧ ((0xFFFF : BitVec 16) ≠ 0 ∧ ¬ (false = true ∧ (0xFFFF : BitVec 16).getLsbD (14 : RegNo).toNat = true)
      ∧ (∀ k < (registerList 0xFFFF).length,
        ¬ ReadAborts svc (firstOf svc false false 14 0xFFFF) (registerList 0xFFFF).length k)
      ∧ (0xFFFF : BitVec 16).getLsbD 15 = true) := by
  dsimp only [ReadAborts, Fits]; decide

/-- System mode; a 26-bit mode; a valid and an invalid mode in the SPSR, and the addresses that may enter a 26-bit mode and that
may not (`witness_AluReturn`). -/
theorem witness_LoadMultipleReturn : conditionPassed .al svc.cpsr = true ∧ (13 : RegNo) ≠ 15 ∧ (inMode .sys).cpsr.mode = .sys
    ∧ ¬ (true = true ∧ (1 : BitVec 15).getLsbD (13 : RegNo).toNat = true)
    ∧ (∀ k < (registerList (1#1 ++ (1 : BitVec 15))).length,
      ¬ ReadAborts svc (firstOf svc false true 13 (1#1 ++ (1 : BitVec 15))) (registerList (1#1 ++ (1 : BitVec 15))).length k)
    ∧ (∀ k < (registerList (1#1 ++ (0 : BitVec 15))).length,
      ¬ ReadAborts edge26 (firstOf edge26 false true 13 (1#1 ++ (0 : BitVec 15)))
        (registerList (1#1 ++ (0 : BitVec 15))).length k)
    ∧ is26 edge26.cpsr.mode = true ∧ is26 svc.cpsr.mode = false
    ∧ getSpsr svc (modeBank svc.cpsr.mode) = some Psr.zero := by
  dsimp only [ReadAborts]; decide

theorem witness_LoadMultipleUser : conditionPassed .al svc.cpsr = true ∧ (13 : RegNo) ≠ 15 ∧ (0x7FFF : BitVec 15) ≠ 0
    ∧ ¬ noSpsr svc.cpsr.mode ∧ Fits svc
    ∧ ∀ k < (registerList (0#1 ++ (0x7FFF : BitVec 15))).length,
      ¬ ReadAborts svc (firstOf svc false true 13 (0#1 ++ (0x7FFF : BitVec 15)))
        (registerList (0#1 ++ (0x7FFF : BitVec 15))).length k := by
  dsimp only [ReadAborts, noSpsr, Fits]; decide

/-- The base written back, lowest in its list and not lowest. -/
theorem witness_StoreMultiple : conditionPassed .al svc.cpsr = true ∧ (1 : RegNo) ≠ 15 ∧ (0x8003 : BitVec 16) ≠ 0 ∧ Fits svc
    ∧ is26 svc.cpsr.mode = false ∧ (0x7FFF : BitVec 16).getLsbD 15 = false
    ∧ (∀ k < (registerList 0x8003).length, ¬ WriteAborts svc (firstOf svc true false 1 0x8003) (registerList 0x8003).length k)
    ∧ stmWord svc true 1 0x8002 1 = some 0 ∧ stmWord svc true 1 0x8003 1 = none := by
  dsimp only [WriteAborts, Fits, stmWord]; decide

theorem witness_StoreMultipleUser : conditionPassed .al svc.cpsr = true ∧ (13 : RegNo) ≠ 15 ∧ (0xFFFF : BitVec 16) ≠ 0
    ∧ ¬ noSpsr svc.cpsr.mode ∧ Fits svc ∧ is26 svc.cpsr.mode = false
    ∧ ∀ k < (registerList 0xFFFF).length,
      ¬ WriteAborts svc (firstOf svc true false 13 0xFFFF) (registerList 0xFFFF).length k := by
  dsimp only [WriteAborts, noSpsr, Fits]; decide

theorem witness_BlockRefused : conditionPassed .al svc.cpsr = true ∧ (15 : RegNo) = 15
    ∧ ((14 : RegNo) ≠ 15 ∧ (0x4000 : BitVec 16).getLsbD (14 : RegNo).toNat = true
      ∧ (0x4000 : BitVec 15).getLsbD (14 : RegNo).toNat = true ∧ svc.cpsr.mode ≠ .usr ∧ svc.cpsr.mode ≠ .sys)
    ∧ noSpsr (inMode .usr26).cpsr.mode ∧ (1 : BitVec 16) ≠ 0 ∧ (1 : BitVec 15) ≠ 0 ∧ ¬ noSpsr svc.cpsr.mode := by
  dsimp only [noSpsr]; decide

/-- The abort at the first, and at the last, of three transfers. -/
theorem witness_LoadMultipleAborted : conditionPassed .al svc.cpsr = true ∧ (0 : RegNo) ≠ 15
    ∧ ((7 : BitVec 16) ≠ 0 ∧ ¬ (false = true ∧ (7 : BitVec 16).getLsbD 0 = true)
      ∧ 2 < (registerList 7).length
      ∧ ReadAborts (withAbort svc [.loadS] 0 99) (firstOf svc false true 0 7) (registerList 7).length 2
      ∧ ∀ k < 2, ¬ ReadAborts (withAbort svc [.loadS] 0 99) (firstOf svc false true 0 7) (registerList 7).length k)
    ∧ (svc.cpsr.mode ≠ .usr ∧ svc.cpsr.mode ≠ .sys ∧ ¬ noSpsr svc.cpsr.mode
      ∧ 0 < (registerList (1#1 ++ (6 : BitVec 15))).length
      ∧ ReadAborts (withAbort svc [.loadM] 0 99) (firstOf svc false true 0 (1#1 ++ (6 : BitVec 15)))
        (registerList (1#1 ++ (6 : BitVec 15))).length 0) := by
  dsimp only [ReadAborts, noSpsr]; decide

theorem witness_StoreMultipleAborted : conditionPassed .al svc.cpsr = true ∧ (0 : RegNo) ≠ 15 ∧ (7 : BitVec 16) ≠ 0
    ∧ is26 svc.cpsr.mode = false ∧ ¬ noSpsr svc.cpsr.mode ∧ 1 < (registerList 7).length
    ∧ WriteAborts (withAbort svc [.storeSM] 0 99) (firstOf svc false true 0 7) (registerList 7).length 1
    ∧ ∀ k < 1, ¬ WriteAborts (withAbort svc [.storeSM] 0 99) (firstOf svc false true 0 7) (registerList 7).length k := by
  dsimp only [WriteAborts, noSpsr]; decide

/-- R15; an aborted read; an aborted write; neither. -/
theorem witness_Swap : conditionPassed .al svc.cpsr = true ∧ (15 : RegNo) = 15 ∧ (14 : RegNo) ≠ 15
    ∧ requestAborts aborting .loadX true (readReg aborting .n 1) = true
    ∧ requestAborts aborting .storeBX true (readReg aborting .n 1) = true
    ∧ requestAborts svc .loadX true (readReg svc .n 14) = false ∧ requestAborts svc .storeX true (readReg svc .n 14) = false
    ∧ requestAborts svc .loadBX true (readReg svc .n 14) = false ∧ requestAborts svc .storeBX true (readReg svc .n 14) = false
    ∧ Fits svc := by
  unfold Fits; decide

theorem witness_SoftwareInterrupt : conditionPassed .al user.cpsr = true
    ∧ Instr.imb .al ∈ [Instr.swi .al 0, .imb .al, .imbRange .al] := by decide

theorem witness_UndefinedTrap : conditionPassed .al user.cpsr = true ∧ Instr.undefinedE4 .al 0xd0 ∈ undefinedBE .al 0xd0
    ∧ user.trapClassesBtoE = true ∧ ({ user with trapClassesBtoE := false } : State).trapClassesBtoE = false := by
  unfold undefinedBE; decide

theorem witness_CoprocessorOffer : Offered (.mrc .al 0 0 15 0 0 0) ∧ Offered (.mcr .al 0 0 14 0 0 0)
    ∧ Unsupported (.cdp .al 0 0 0 0 0 0) ∧ conditionPassed (Instr.mrc .al 0 0 15 0 0 0).cond user.cpsr = true
    ∧ user.coproc = [] ∧ ({ user with coproc := [⟨some 0, .bounce⟩] } : State).coproc = ⟨some 0, .bounce⟩ :: []
    ∧ (accepting user 1).coproc = ⟨some 0, .accept 1⟩ :: [] :=
  ⟨.mrc .., .mcr _ _ _ _ _ _ _ (by decide), .cdp .., rfl, rfl, rfl, rfl⟩

/-- User mode holding a coprocessor instruction, with both interrupts enabled. -/
def waiting (waits : Option Nat) : State := { inMode .usr with coproc := [⟨waits, .bounce⟩], nextFetch := .held }

/-- One cycle to wait, and cycles without end; and the two interrupts at the end of such a cycle. -/
theorem witness_BusyWait : Offered (.ldc .al true true false false 1 2 3 4)
    ∧ conditionPassed (Instr.ldc .al true true false false 1 2 3 4).cond (waiting none).cpsr = true
    ∧ ((waiting (some 1)).coproc = ⟨some 1, .bounce⟩ :: [] ∧ some 1 ≠ some 0)
    ∧ ((waiting none).coproc = ⟨none, .bounce⟩ :: [] ∧ none ≠ some 0)
    ∧ user.cpsr.f = false ∧ ({ user with nextFetch := .held } : State).nextFetch = .held
    ∧ (waiting none).nextFetch = .held ∧ (¬ (true = true ∧ (waiting none).cpsr.f = false)) ∧ user.cpsr.i = false :=
  ⟨.ldc .., rfl, ⟨rfl, by decide⟩, ⟨rfl, nofun⟩, rfl, rfl, rfl, by decide, rfl⟩

/-- Accepted by a coprocessor that exists, into a register and into the flags, and for one that does not. -/
theorem witness_MoveFromCoprocessor : conditionPassed .al user.cpsr = true
    ∧ (accepting user 1).coproc = ⟨some 0, .accept 1⟩ :: [] ∧ (15 : BitVec 4) ∈ (accepting user 1).presentCps
    ∧ (14 : BitVec 4) ∉ (accepting user 1).presentCps ∧ Fits (accepting user 1) :=
  ⟨rfl, rfl, by decide, by decide, by unfold Fits; decide⟩

theorem witness_MoveToCoprocessor : conditionPassed .al user.cpsr = true ∧ (14 : RegNo) ≠ 15
    ∧ (accepting user 1).coproc = ⟨some 0, .accept 1⟩ :: [] ∧ (15 : BitVec 4) ∈ (accepting user 1).presentCps
    ∧ (14 : BitVec 4) ∉ (accepting user 1).presentCps ∧ Fits (accepting user 1) :=
  ⟨rfl, by decide, rfl, by decide, by decide, by unfold Fits; decide⟩

theorem witness_PrefetchAbort : fetchAborted.inReset = false ∧ fetchAborts fetchAborted = true
    ∧ currentLines fetchAborted = ⟨false, false, false⟩ := ⟨rfl, fetchAborted_aborts, rfl⟩

/-- The word 0 at 0x8000 is ANDEQ R0,R0,R0, whose condition fails: the instruction leaves the next one, with the FIQ
taken, the IRQ taken, and both masked. -/
theorem witness_InterruptSampling :
    (∃ u, runInstruction { user with lines := [⟨false, true, true⟩] } = .next u ∧ u.cpsr.f = false ∧ u.cpsr.i = false)
    ∧ (∃ u, runInstruction { inMode .usr with lines := [⟨false, true, true⟩] } = .next u ∧ u.cpsr.f = true
      ∧ u.cpsr.i = true)
    ∧ ({ user with lines := [⟨false, true, true⟩] } : State).inReset = false :=
  ⟨⟨_, rfl, rfl, rfl⟩, ⟨_, rfl, rfl, rfl⟩, rfl⟩

/-- LDR R0,[R1] in User mode with a region that aborts it and FIQ asserted. -/
def fiqAborted : State :=
  ({ withAbort user [.load] 0 3 with lines := [⟨false, true, false⟩] } : State).withFetchWord 32 0xE5910000

theorem witness_FiqAfterDataAbort : fiqAborted.inReset = false ∧ fiqAborted.lines = ⟨false, true, false⟩ :: []
    ∧ fiqAborted.cpsr.f = false ∧ ∃ u, runInstruction fiqAborted = .next u ∧ DataAborted fiqAborted u := by
  refine ⟨rfl, rfl, rfl, takeDataAbort fiqAborted, rfl, ⟨rfl, ?_, rfl, ?_, rfl, rfl, fun _ => rfl,
    ⟨rfl, rfl, rfl, rfl, rfl, rfl, rfl⟩, rfl, rfl, rfl⟩, rfl, ⟨rfl, rfl, rfl⟩, rfl⟩
  · intro r hr
    rcases r with k | k | k | b | b
    · rfl
    · rfl
    · rfl
    · rfl
    · cases b
      · rfl
      · rfl
      · rfl
      · rfl
      · simp at hr
      · rfl
  · intro b hb
    cases b
    · rfl
    · rfl
    · rfl
    · rfl
    · exact absurd rfl hb
    · rfl

/-- Reset held, reset released, reset asserted while an instruction runs. -/
theorem witness_ResetSequence :
    (({ svc with inReset := true, lines := [⟨true, false, false⟩] } : State).inReset = true
      ∧ (currentLines { svc with inReset := true, lines := [⟨true, false, false⟩] }).reset = true)
    ∧ (currentLines { svc with inReset := true }).reset = false
    ∧ ∃ u, runInstruction { svc with lines := [⟨true, false, false⟩] } = .next u :=
  ⟨⟨rfl, rfl⟩, rfl, _, rfl⟩

theorem witness_BarrierNeeded : (fetchAborts { svc with stale := [0x8000] } = false
      ∧ ({ svc with stale := [0x8000] } : State).pc.toNat ∈ ({ svc with stale := [0x8000] } : State).stale)
    ∧ isExecutedSwi (.swi .eq 0) { svc with imbOwed := [0x9000, 0x8000] } = false
    ∧ ({ svc with imbOwed := [0x9000, 0x8000] } : State).pc ∈ ({ svc with imbOwed := [0x9000, 0x8000] } : State).imbOwed
    ∧ isExecutedSwi (.imb .al) { svc with imbOwed := [0x9000, 0x8000] } = true := by
  decide

/-- R15 as Rn and as Rm; as a base and as a word stored; as the base of a halfword load; in the list of both forms of STM. -/
theorem witness_PcReadsIn26BitModes : conditionPassed .al edge26.cpsr = true ∧ is26 edge26.cpsr.mode = true ∧ readsRn .add
    ∧ ((0 : RegNo) = 15 ∨ (readsRn .add ∧ (15 : RegNo) = 15))
    ∧ ¬ SingleForbidden edge26 .ldr true 15 14 (.pre false) (.imm 0)
    ∧ ¬ SingleForbidden edge26 .str true 14 15 (.pre true) (.imm 0)
    ∧ ¬ HalfForbidden edge26 .ldrsh true 15 14 (some false) (.imm 0)
    ∧ ((14 : RegNo) ≠ 15 ∧ (0x8000 : BitVec 16).getLsbD 15 = true) ∧ ¬ noSpsr edge26.cpsr.mode := by
  dsimp only [SingleForbidden, HalfForbidden, readsRn, noSpsr]; decide

theorem witness_DecodeEncode : (Instr.swi .al 0xFFFFFF).wellFormed = true ∧ (Instr.undefinedE4 .eq 0xd0).wellFormed = true := by
  decide

theorem witness_EncodeDecode : decode 0xE1A00000 = .instr (.movShiftImm .al false 0 0 0 .lsl 0) := by decide

/-- Reset memory holds the word 0: ANDEQ R0,R0,R0. -/
theorem witness_StepRunsDecoded : State.reset.inReset = false ∧ fetchAborts State.reset = false
    ∧ fetchStale State.reset = false ∧ State.reset.pc ∉ State.reset.imbOwed
    ∧ decode (wordAt State.reset State.reset.pc) = .instr (.andShiftImm .eq false 0 0 0 .lsl 0) := by decide

theorem witness_InvariantKept : (pcWf edge26 = true ∧ edge26.mem.wf = true ∧ staleWf 0 edge26.stale = true)
    ∧ ∃ t, step edge26 = .next t :=
  ⟨by decide, _, rfl⟩

/-- A SWI, which enters the exception, and a MOV, which does not. -/
theorem witness_UserProtection : isPrivileged user.cpsr.mode = false
    ∧ (∃ t, exec (.swi .al 0) user = .next t ∧ t.cpsr.mode = .svc)
    ∧ ∃ t, exec (.movImm .al true 0 14 0 1) user = .next t ∧ t.cpsr.mode = .usr :=
  ⟨rfl, ⟨_, rfl, rfl⟩, _, rfl, rfl⟩

end Sys2Proof.Tests
end

section
/-! SUPPORT. The modes and the register banks of spec/10_state.md: R33, R47 and R48. -/

namespace Sys2Proof.Machine

open Sys2Proof.Claims

/-- A number is a mode's exactly when it is that mode's code: the other numbers are invalid (R47, R48): a table
of 32 numbers. -/
theorem modeOfBits_eq_some {v : BitVec 5} {m : Mode} : modeOfBits v = some m ↔ v = modeBits m := by
  constructor
  · revert v
    cases m <;> decide
  · rintro rfl
    exact modeOfBits_modeBits m

theorem isPrivileged_eq_false {m : Mode} : isPrivileged m = false ↔ m = .usr ∨ m = .usr26 := by
  cases m <;> decide

theorem isFiqMode_eq_true {m : Mode} : isFiqMode m = true ↔ m = .fiq ∨ m = .fiq26 := by
  cases m <;> decide

/-! ### Register numbers -/

/-- R0 to R7 are the same registers in every mode. -/
theorem physReg_low (m : Mode) (k : Fin 8) : physReg m (BitVec.ofNat 4 k) = some (.low k) := by
  have hk : (BitVec.ofNat 4 k).toNat = k := by simp; omega
  simp [physReg, hk]

/-- R8 to R12 are banked in the FIQ modes alone. -/
theorem physReg_mid (m : Mode) (k : Fin 5) :
    physReg m (BitVec.ofNat 4 (k + 8)) = if m = .fiq ∨ m = .fiq26 then some (.midFiq k) else some (.mid k) := by
  have hk : (BitVec.ofNat 4 (k + 8)).toNat = k + 8 := by simp; omega
  simp [physReg, hk, ← isFiqMode_eq_true]

theorem readUserReg_of_phys {s : State} {i : RegNo} {r : PhysReg} (h : physReg .usr i = some r) :
    readUserReg s i = getPhys s r := by
  simp [readUserReg, h]

theorem writeUserReg_of_phys {s : State} {i : RegNo} {r : PhysReg} (v : Word) (h : physReg .usr i = some r) :
    writeUserReg s i v = setPhys s r v := by
  simp [writeUserReg, h]

/-- A write of one physical register keeps every other. -/
theorem regsKeptBut_setPhys (s : State) (r : PhysReg) (v : Word) : RegsKeptBut s (setPhys s r v) [some r] := by
  intro q hq
  exact getPhys_setPhys_other s v (by rintro rfl; simp at hq)

theorem holds_writeReg {s : State} {i : RegNo} (v : Word) (hi : i ≠ 15) : Holds s (writeReg s i v) i v := by
  obtain ⟨r, hr⟩ := physReg_isSome s.cpsr.mode hi
  rw [writeReg_of_phys v hr]
  exact ⟨r, hr, getPhys_setPhys_same s r v⟩

theorem regsKeptBut_writeReg {s : State} {i : RegNo} (v : Word) (hi : i ≠ 15) :
    RegsKeptBut s (writeReg s i v) [reg s i] := by
  obtain ⟨r, hr⟩ := physReg_isSome s.cpsr.mode hi
  rw [writeReg_of_phys v hr, show reg s i = some r from hr]
  exact regsKeptBut_setPhys s r v

/-! ### The obligations -/

/-- Settles O1. -/
theorem resetState : Obligations.ResetState := ⟨rfl, rfl, rfl, rfl, rfl, rfl⟩

/-- Settles O2: the tables by evaluation, the invalid numbers by `modeOfBits_eq_some`. -/
theorem modeTable : Obligations.ModeTable :=
  ⟨rfl, fun _ _ => modeOfBits_eq_some, fun _ => isPrivileged_eq_false, fun _ => rfl, rfl⟩

/-- Settles O3. -/
theorem registerBanks : Obligations.RegisterBanks := by
  refine ⟨fun m => ⟨physReg_low m, physReg_mid m, rfl, rfl, rfl⟩, rfl, ?_, ?_, ?_, ?_, fun _ => rfl, ?_⟩
  · intro s i r hr hz p
    exact readReg_of_phys p hr hz
  · intro s i r hr
    exact readUserReg_of_phys hr
  · intro s i v hi
    exact ⟨holds_writeReg v hi, regsKeptBut_writeReg v hi⟩
  · intro s i r v hr
    rw [writeUserReg_of_phys v hr]
    exact ⟨getPhys_setPhys_same s r v, regsKeptBut_setPhys s r v⟩
  · intro s p
    exact ⟨readReg_fifteen s p, rfl⟩

end Sys2Proof.Machine
end

section
/-! SUPPORT. What executing an instruction can do, said once: elementary updates of the state, then one end. Every invariant
of the machine is a fact about each update and each end. -/

namespace Sys2Proof.Machine

/-! ### Updates and ends -/

/-- A register that an instruction executed in mode `m` can write: one that `m` sees, or one of the User bank (R33, R403). -/
def Writable (m : Mode) (r : PhysReg) : Prop := (∃ i, physReg m i = some r) ∨ ∃ i, physReg .usr i = some r

/-- The elementary changes an instruction makes to the state before the PC moves on. -/
inductive Update (s : State) : State → Prop
  /-- A general register. -/
  | reg (r : PhysReg) (v : Word) (h : Writable s.cpsr.mode r) : Update s (setPhys s r v)
  /-- N, Z, C and V. -/
  | flags (p : Cpsr) (hi : p.i = s.cpsr.i) (hf : p.f = s.cpsr.f) (hm : p.mode = s.cpsr.mode) :
      Update s { s with cpsr := p }
  /-- The control bits of the CPSR, in a privileged mode only (R46, R82). -/
  | control (p : Cpsr) (hp : isPrivileged s.cpsr.mode = true) (hm : enters26Outside s p.mode = false) :
      Update s { s with cpsr := p }
  /-- An SPSR, in a privileged mode only (R46). -/
  | spsr (b : Bank) (p : Psr) (hp : isPrivileged s.cpsr.mode = true) : Update s (setSpsr s b p)
  /-- A byte of memory, which makes its word stale (R91, R127). -/
  | byte (a : Word) (v : Byte) : Update s (markStale (setByte s a v) a)
  /-- A halfword of memory (R92, R127). -/
  | half (a : Word) (v : Half) : Update s (markStale (setHalf s a v) a)
  /-- A word of memory (R93, R127). -/
  | word (a v : Word) : Update s (markStale (setWord s a v) a)
  /-- The exchange with the coprocessors and the model's own records. -/
  | records (u : State) (h : u = { s with
      nextFetch := u.nextFetch, hazardStep := u.hazardStep, imbOwed := u.imbOwed, imbReturn := u.imbReturn,
      coproc := u.coproc, coprocLog := u.coprocLog, controlLog := u.controlLog }) : Update s u

/-- Any number of updates, one after the other. -/
abbrev Updates : State → State → Prop := Relation.ReflTransGen Update

/-- An exception that an instruction itself raises (R501). -/
def Exc.isRaised : Exc → Bool
  | .undefined | .swi | .dataAbort => true
  | .prefetchAbort | .irq | .fiq => false

/-- How an instruction ends, once its updates are made. -/
inductive Ends (u : State) : State → Prop
  /-- The next instruction follows. -/
  | next {t : State} (h : advance u = .next t) : Ends u t
  /-- A jump. -/
  | jump (a : Word) : Ends u (branchTo u a)
  /-- The exception the instruction raises. -/
  | raise (e : Exc) (ret : Word) (h : e.isRaised = true) : Ends u (takeException e ret u)
  /-- A software interrupt, which is a barrier too (R125, R428). -/
  | swi : Ends u (softwareInterrupt u)
  /-- A coprocessor instruction held in its busy-wait loop (R461). -/
  | hold : Ends u u

/-- Where `k` answers a next state, updates of `s` and one end lead there. -/
def Acts (s : State) (k : Result) : Prop := ∀ t, k = .next t → ∃ u, Updates s u ∧ Ends u t

/-! ### Chains of updates -/

namespace Updates

variable {s u : State}

theorem writeReg (h : Updates s u) (i : RegNo) (v : Word) : Updates s (writeReg u i v) := by
  unfold Machine.writeReg
  split
  · exact h
  · next r hr => exact h.tail (.reg r v (.inl ⟨i, hr⟩))

theorem writeUserReg (h : Updates s u) (i : RegNo) (v : Word) : Updates s (writeUserReg u i v) := by
  unfold Machine.writeUserReg
  split
  · exact h
  · next r hr => exact h.tail (.reg r v (.inr ⟨i, hr⟩))

theorem writeBack (h : Updates s u) (pre wb : Bool) (rn : RegNo) (v : Word) : Updates s (writeBack u pre wb rn v) := by
  unfold Machine.writeBack
  split
  · exact h.writeReg rn v
  · exact h

theorem setAluFlags (h : Updates s u) (r : AluResult) : Updates s (setAluFlags u r) := h.tail (.flags _ rfl rfl rfl)

theorem setFlagBits (h : Updates s u) (w : Word) : Updates s (setFlagBits u w) := h.tail (.flags _ rfl rfl rfl)

theorem setMultiplyFlags (h : Updates s u) (w : Word) : Updates s (setMultiplyFlags u w) :=
  h.tail (.flags _ rfl rfl rfl)

theorem setLongMultiplyFlags (h : Updates s u) (w : BitVec 64) : Updates s (setLongMultiplyFlags u w) :=
  h.tail (.flags _ rfl rfl rfl)

theorem logCoproc (h : Updates s u) (i : Instr) (d : Option Word) : Updates s (logCoproc i d u) :=
  h.tail (.records _ rfl)

/-- User 26-bit mode sets the flags alone; every other 26-bit mode is privileged (R284, R285). -/
theorem setPsr26 (h : Updates s u) (h26 : is26 u.cpsr.mode = true) (w : Word) : Updates s (setPsr26 u w) := by
  unfold Machine.setPsr26
  dsimp only
  split
  · exact h.setFlagBits w
  · next hm =>
    refine h.tail (.control _ ?_ ?_)
    · revert h26 hm; cases u.cpsr.mode <;> decide
    · simp [enters26Outside, h26]

/-- The stores of a block. -/
theorem writeBlock (h : Updates s u) (first : Bool) (a : Word) (l : List Word) :
    Updates s (writeBlock u first a l).state := by
  induction l generalizing u first a with
  | nil => exact h
  | cons v l ih =>
    rw [Machine.writeBlock]
    split
    · exact h
    · next t ht =>
      obtain ⟨-, rfl⟩ := storeWord_eq_some.mp ht
      exact ih (h.tail (.word a v)) _ _

/-- The loaded registers of a block, through either register view. -/
theorem writeLoaded {write : State → RegNo → Word → State}
    (hw : ∀ {t : State} (i v), Updates s t → Updates s (write t i v)) (h : Updates s u) (l : List (RegNo × Word)) :
    Updates s (writeLoaded write u l) := by
  unfold Machine.writeLoaded
  induction l generalizing u with
  | nil => exact h
  | cons p l ih => exact ih (hw _ _ h)

/-- The registers an aborted block load may have changed. -/
theorem keepOrLoad {phys : RegNo → Option PhysReg} (hphys : ∀ i r, phys i = some r → Writable s.cpsr.mode r)
    (base : Option PhysReg) (l : List (RegNo × Word)) : Updates s (keepOrLoad phys base s l) := by
  suffices ∀ t : State, Updates s t → t.cpsr = s.cpsr → Updates s (l.foldl _ t) from this s .refl rfl
  induction l with
  | nil => exact fun t h _ => h
  | cons p l ih =>
    intro t h hc
    rw [List.foldl_cons]
    split
    · exact ih t h hc
    · next r hr =>
      split
      · exact ih t h hc
      · split
        · exact ih _ (h.tail (.reg r _ (hc ▸ hphys _ _ hr))) (by rw [setPhys_cpsr, hc])
        · exact ih t h hc

end Updates

/-! ### Outcomes -/

section
variable {s u : State} {k : Result}

theorem acts_refused (r : Refusal) : Acts s (.refused r) := by
  intro t ht
  cases ht

theorem acts_refuseIf (b : Bool) (r : Refusal) (h : b = false → Acts s k) : Acts s (refuseIf b r k) := by
  intro t ht
  obtain ⟨hb, ht⟩ := refuseIf_eq_next.mp ht
  exact h hb t ht

theorem acts_advance (h : Updates s u) : Acts s (advance u) := fun _ ht => ⟨u, h, .next ht⟩

theorem acts_branchTo (h : Updates s u) (a : Word) : Acts s (.next (branchTo u a)) := by
  rintro t ⟨⟩
  exact ⟨u, h, .jump a⟩

theorem acts_takeDataAbort (h : Updates s u) : Acts s (.next (takeDataAbort u)) := by
  rintro t ⟨⟩
  exact ⟨u, h, .raise _ _ rfl⟩

theorem acts_takeUndefined (h : Updates s u) : Acts s (.next (takeUndefined u)) := by
  rintro t ⟨⟩
  exact ⟨u, h, .raise _ _ rfl⟩

theorem acts_softwareInterrupt : Acts s (.next (softwareInterrupt s)) := by
  rintro t ⟨⟩
  exact ⟨s, .refl, .swi⟩

theorem acts_whenPassed {c : Cond} (h : Acts s k) : Acts s (whenPassed c s k) := by
  unfold whenPassed
  split
  · exact h
  · exact acts_advance .refl

theorem acts_writeResult (h : Updates s u) (rd : RegNo) (v : Word) : Acts s (writeResult u rd v) := by
  unfold writeResult
  split
  · exact acts_branchTo h v
  · exact acts_advance (h.writeReg rd v)

/-- A mode that has an SPSR is privileged (R33, R47). -/
theorem isPrivileged_of_currentSpsr {p : Psr} (h : currentSpsr s = some p) : isPrivileged s.cpsr.mode = true := by
  by_contra hp
  rcases isPrivileged_eq_false.mp (Bool.eq_false_iff.mpr hp) with hm | hm <;>
    simp [currentSpsr, hm, modeBank, getSpsr] at h

theorem acts_returnFromException (h : Updates s u) (a : Word) (r : Refusal) : Acts s (returnFromException u a r) := by
  intro t ht
  obtain ⟨p, q, hp, -, hq, rfl⟩ := returnFromException_eq_next.mp ht
  exact ⟨_, h.tail (.control q (isPrivileged_of_currentSpsr hp) hq), .jump a⟩

end

/-! ### Meanings -/

section
variable (s : State)

theorem acts_finishAlu (op : AluOp) (sb : Bool) (rd : RegNo) (r : AluResult) : Acts s (finishAlu op sb rd r s) := by
  intro t ht
  rcases finishAlu_eq_next.mp ht with ⟨-, -, h26, h⟩ | ⟨-, -, h⟩ | ⟨-, -, -, h26, rfl⟩ | ⟨-, -, -, -, h⟩ | ⟨-, -, -, rfl⟩
    | ⟨-, -, -, h⟩ | ⟨-, -, -, h⟩
  · exact acts_advance (Updates.setPsr26 .refl h26 _) t h
  · exact acts_advance (Updates.setAluFlags .refl r) t h
  · exact acts_branchTo (Updates.setPsr26 .refl h26 _) _ _ rfl
  · exact acts_returnFromException .refl _ _ t h
  · exact acts_branchTo .refl _ _ rfl
  · exact acts_advance ((Updates.setAluFlags .refl r).writeReg _ _) t h
  · exact acts_advance (Updates.writeReg .refl _ _) t h

theorem acts_aluImm (op : AluOp) (sb : Bool) (rn rd : RegNo) (rotate : BitVec 4) (imm : BitVec 8) :
    Acts s (aluImm op sb rn rd rotate imm s) := acts_refuseIf _ _ fun _ => acts_finishAlu s _ _ _ _

theorem acts_aluShiftImm (op : AluOp) (sb : Bool) (rn rd : RegNo) (amount : BitVec 5) (ty : ShiftType) (rm : RegNo) :
    Acts s (aluShiftImm op sb rn rd amount ty rm s) := acts_refuseIf _ _ fun _ => acts_finishAlu s _ _ _ _

theorem acts_aluShiftReg (op : AluOp) (sb : Bool) (rn rd rs : RegNo) (ty : ShiftType) (rm : RegNo) :
    Acts s (aluShiftReg op sb rn rd rs ty rm s) := acts_refuseIf _ _ fun _ => acts_finishAlu s _ _ _ _

theorem acts_moveFromPsr (rd : RegNo) (p : Option Psr) : Acts s (moveFromPsr rd p s) := by
  intro t ht
  obtain ⟨-, q, -, h⟩ := moveFromPsr_eq_next.mp ht
  exact acts_advance (Updates.writeReg .refl _ _) t h

theorem acts_writeControl {u : State} (h : Updates s u) (hp : isPrivileged u.cpsr.mode = true) (v : Word) :
    Acts s (writeControl v u) := by
  intro t ht
  obtain ⟨m, -, hm, ht⟩ := writeControl_eq_next.mp ht
  have hc := h.tail (.control { u.cpsr with i := v.getLsbD 7, f := v.getLsbD 6, mode := m } hp hm)
  exact acts_advance (hc.tail (.records _ rfl)) t ht

theorem acts_moveToCpsr (mask : FieldMask) (v : Word) : Acts s (moveToCpsr mask v s) := by
  have hf : Updates s (if mask.flags then setFlagBits s v else s) := by
    split
    · exact Updates.setFlagBits .refl v
    · exact .refl
  have hm : (if mask.flags then setFlagBits s v else s).cpsr.mode = s.cpsr.mode := by split <;> rfl
  unfold moveToCpsr
  dsimp only
  split
  · next hc =>
    obtain ⟨-, hp⟩ := Bool.and_eq_true_iff.mp hc
    exact acts_writeControl s hf (hm ▸ hp) v
  · exact acts_advance hf

theorem acts_moveToSpsr (mask : FieldMask) (v : Word) : Acts s (moveToSpsr mask v s) := by
  intro t ht
  obtain ⟨p, hp, h⟩ := moveToSpsr_eq_next.mp ht
  exact acts_advance (.single (.spsr _ _ (isPrivileged_of_currentSpsr hp))) t h

theorem acts_multiply (sb : Bool) (rd rs rm : RegNo) (acc : Word) : Acts s (multiply sb rd rs rm acc s) := by
  refine acts_advance (Updates.writeReg ?_ _ _)
  split
  · exact Updates.setMultiplyFlags .refl _
  · exact .refl

theorem acts_multiplyLong (signed acc sb : Bool) (rdHi rdLo rs rm : RegNo) :
    Acts s (multiplyLong signed acc sb rdHi rdLo rs rm s) := by
  refine acts_refuseIf _ _ fun _ => acts_advance (Updates.writeReg (Updates.writeReg ?_ _ _) _ _)
  split
  · exact Updates.setLongMultiplyFlags .refl _
  · exact .refl

theorem acts_checkSingle {load byte pre wb : Bool} {rn rd : RegNo} {k : Result} (h : Acts s k) :
    Acts s (checkSingle load byte pre wb rn rd s k) :=
  acts_refuseIf _ _ fun _ => acts_refuseIf _ _ fun _ => acts_refuseIf _ _ fun _ => acts_refuseIf _ _ fun _ => h

theorem acts_checkHalf {load pre wb : Bool} {rn rd : RegNo} {k : Result} (h : Acts s k) :
    Acts s (checkHalf load pre wb rn rd s k) :=
  acts_refuseIf _ _ fun _ => acts_refuseIf _ _ fun _ => acts_refuseIf _ _ fun _ => acts_refuseIf _ _ fun _ => h

theorem acts_checkOffset {pre : Bool} {rn rm : RegNo} {k : Result} (h : Acts s k) : Acts s (checkOffset pre rn rm k) :=
  acts_refuseIf _ _ fun _ => acts_refuseIf _ _ fun _ => h

theorem acts_checkBlock {rn : RegNo} {list : BitVec 16} {k : Result} (h : Acts s k) : Acts s (checkBlock rn list k) :=
  acts_refuseIf _ _ fun _ => acts_refuseIf _ _ fun _ => h

theorem acts_loadWordReg (priv pre up wb : Bool) (rn rd : RegNo) (off : Word) :
    Acts s (loadWordReg priv pre up wb rn rd off s) := by
  refine acts_checkSingle s (acts_refuseIf _ _ fun _ => ?_)
  split
  · exact acts_takeDataAbort .refl
  · exact acts_writeResult (Updates.writeBack .refl _ _ _ _) _ _

theorem acts_loadByteReg (priv pre up wb : Bool) (rn rd : RegNo) (off : Word) :
    Acts s (loadByteReg priv pre up wb rn rd off s) := by
  refine acts_checkSingle s ?_
  dsimp only
  split
  · exact acts_takeDataAbort .refl
  · exact acts_advance ((Updates.writeBack .refl _ _ _ _).writeReg _ _)

theorem acts_storeWordReg (priv pre up wb : Bool) (rn rd : RegNo) (off : Word) :
    Acts s (storeWordReg priv pre up wb rn rd off s) := by
  refine acts_checkSingle s (acts_refuseIf _ _ fun _ => ?_)
  split
  · exact acts_takeDataAbort .refl
  · next t ht =>
    obtain ⟨-, rfl⟩ := storeWord_eq_some.mp ht
    exact acts_advance (Updates.writeBack (.single (.word _ _)) _ _ _ _)

theorem acts_storeByteReg (priv pre up wb : Bool) (rn rd : RegNo) (off : Word) :
    Acts s (storeByteReg priv pre up wb rn rd off s) := by
  refine acts_checkSingle s ?_
  dsimp only
  split
  · exact acts_takeDataAbort .refl
  · next t ht =>
    obtain ⟨-, rfl⟩ := storeByte_eq_some.mp ht
    exact acts_advance (Updates.writeBack (.single (.byte _ _)) _ _ _ _)

theorem acts_loadExtendedReg (pre up wb : Bool) (rn rd : RegNo) (off : Word) (access : Word → Option Word) :
    Acts s (loadExtendedReg pre up wb rn rd off access s) := by
  refine acts_checkHalf s ?_
  dsimp only
  split
  · exact acts_takeDataAbort .refl
  · exact acts_advance ((Updates.writeBack .refl _ _ _ _).writeReg _ _)

theorem acts_storeHalfReg (pre up wb : Bool) (rn rd : RegNo) (off : Word) :
    Acts s (storeHalfReg pre up wb rn rd off s) := by
  refine acts_checkHalf s (acts_refuseIf _ _ fun _ => ?_)
  split
  · exact acts_takeDataAbort .refl
  · next t ht =>
    obtain ⟨-, rfl⟩ := storeHalf_eq_some.mp ht
    exact acts_advance (Updates.writeBack (.single (.half _ _)) _ _ _ _)

theorem acts_blockLoad {phys : RegNo → Option PhysReg} {pre up : Bool} {rn : RegNo} {list : BitVec 16}
    {k : Word → List (RegNo × Word) → Result} (hphys : ∀ i r, phys i = some r → Writable s.cpsr.mode r)
    (hk : ∀ base l, Acts s (k base l)) : Acts s (blockLoad phys pre up rn list s k) := by
  unfold blockLoad
  dsimp only
  split
  · exact acts_takeDataAbort (Updates.keepOrLoad hphys _ _)
  · exact hk _ _

theorem acts_blockStore (pre up wb : Bool) (rn : RegNo) (list : BitVec 16) (value : Word → RegNo → Word) :
    Acts s (blockStore pre up wb rn list value s) := by
  have hw : ∀ a l, Updates s (writeBlock s true a l).state := Updates.writeBlock .refl true
  unfold blockStore
  dsimp only
  split
  · exact acts_takeDataAbort (hw _ _)
  · refine acts_advance ?_
    split
    · exact (hw _ _).writeReg _ _
    · exact hw _ _

theorem Updates.loadedState (up wb : Bool) (rn : RegNo) (base : Word) (l : List (RegNo × Word)) :
    Updates s (loadedState s up wb rn base l) := by
  refine Updates.writeLoaded (fun i v h => h.writeReg i v) ?_ l
  split
  · exact Updates.writeReg .refl _ _
  · exact .refl

theorem writable_of_physReg {m : Mode} (i : RegNo) (r : PhysReg) (h : physReg m i = some r) : Writable m r := .inl ⟨i, h⟩

theorem acts_execLdm (c : Cond) (pre up wb : Bool) (rn : RegNo) (list : BitVec 16) :
    Acts s (execLdm c pre up wb rn list s) := by
  refine acts_whenPassed <| acts_checkBlock s <| acts_refuseIf _ _ fun _ =>
    acts_blockLoad s writable_of_physReg fun base l => ?_
  have hl := Updates.loadedState s up wb rn base l
  dsimp only
  split
  · exact acts_branchTo hl _
  · exact acts_advance hl

theorem acts_execLdmPc (c : Cond) (pre up wb : Bool) (rn : RegNo) (list : BitVec 15) :
    Acts s (execLdmPc c pre up wb rn list s) := by
  refine acts_whenPassed <| acts_checkBlock s <| acts_refuseIf _ _ fun _ => acts_refuseIf _ _ fun _ =>
    acts_blockLoad s writable_of_physReg fun base l => ?_
  have hl := Updates.loadedState s up wb rn base l
  have hm : (loadedState s up wb rn base l).cpsr = s.cpsr := by
    have hfold : ∀ (l : List (RegNo × Word)) (t : State), (writeLoaded writeReg t l).cpsr = t.cpsr := by
      intro l
      induction l with
      | nil => exact fun _ => rfl
      | cons p l ih => exact fun t => (ih _).trans (writeReg_cpsr ..)
    rw [loadedState, hfold]
    split <;> simp
  dsimp only
  split
  · next h26 => exact acts_branchTo (hl.setPsr26 (hm ▸ h26) _) _
  · exact acts_returnFromException hl _ _

theorem acts_execLdmUser (c : Cond) (pre up wb : Bool) (rn : RegNo) (list : BitVec 15) :
    Acts s (execLdmUser c pre up wb rn list s) := by
  refine acts_whenPassed <| acts_checkBlock s <| acts_refuseIf _ _ fun _ => acts_refuseIf _ _ fun _ =>
    acts_blockLoad s (fun i r h => .inr ⟨i, h⟩) fun base l => acts_advance ?_
  exact (Updates.writeLoaded (fun i v h => h.writeUserReg i v) .refl l).tail (.records _ rfl)

theorem acts_execStm (c : Cond) (pre up wb : Bool) (rn : RegNo) (list : BitVec 16) :
    Acts s (execStm c pre up wb rn list s) :=
  acts_whenPassed <| acts_checkBlock s <| acts_refuseIf _ _ fun _ => acts_blockStore s _ _ _ _ _ _

theorem acts_execStmUser (c : Cond) (pre up wb : Bool) (rn : RegNo) (list : BitVec 16) :
    Acts s (execStmUser c pre up wb rn list s) :=
  acts_whenPassed <| acts_checkBlock s <| acts_refuseIf _ _ fun _ => acts_refuseIf _ _ fun _ =>
    acts_refuseIf _ _ fun _ => acts_blockStore s _ _ _ _ _ _

theorem acts_execSwp (c : Cond) (rn rd rm : RegNo) : Acts s (execSwp c rn rd rm s) := by
  refine acts_whenPassed <| acts_refuseIf _ _ fun _ => ?_
  dsimp only
  split
  · exact acts_takeDataAbort .refl
  · split
    · exact acts_takeDataAbort .refl
    · next t ht =>
      obtain ⟨-, rfl⟩ := storeWord_eq_some.mp ht
      exact acts_advance (Updates.writeReg (.single (.word _ _)) _ _)

theorem acts_execSwpb (c : Cond) (rn rd rm : RegNo) : Acts s (execSwpb c rn rd rm s) := by
  refine acts_whenPassed <| acts_refuseIf _ _ fun _ => ?_
  dsimp only
  split
  · exact acts_takeDataAbort .refl
  · split
    · exact acts_takeDataAbort .refl
    · next t ht =>
      obtain ⟨-, rfl⟩ := storeByte_eq_some.mp ht
      exact acts_advance (Updates.writeReg (.single (.byte _ _)) _ _)

theorem acts_offer {k : Word → State → Result} (hk : ∀ d u, Updates s u → Acts s (k d u)) : Acts s (offer s k) := by
  intro t ht
  rcases offer_eq_next.mp ht with ⟨-, rfl⟩ | ⟨rest, -, rfl⟩ | ⟨r, rest, -, -, rfl⟩ | ⟨d, rest, -, h⟩
  · exact acts_takeUndefined .refl _ rfl
  · exact acts_takeUndefined (.single (.records _ rfl)) _ rfl
  · exact ⟨_, .single (.records _ rfl), .hold⟩
  · exact hk d _ (.single (.records _ rfl)) t h

theorem acts_offerUnsupported : Acts s (offerUnsupported s) := acts_offer s fun _ _ _ => acts_refused _

theorem acts_offerTransfer {cp : BitVec 4} {k : Word → State → Result} (hk : ∀ d u, Updates s u → Acts s (k d u)) :
    Acts s (offerTransfer cp s k) := acts_offer s fun d u hu => acts_refuseIf _ _ fun _ => hk d u hu

theorem acts_execMrc (c : Cond) (opc : BitVec 3) (crn rd : RegNo) (cp : BitVec 4) (info : BitVec 3) (crm : RegNo) :
    Acts s (execMrc c opc crn rd cp info crm s) := by
  refine acts_whenPassed <| acts_offerTransfer s fun d u hu => ?_
  dsimp only
  split
  · exact acts_advance ((hu.logCoproc _ _).setFlagBits d)
  · exact acts_advance ((hu.logCoproc _ _).writeReg rd d)

theorem acts_execMcr (c : Cond) (opc : BitVec 3) (crn rd : RegNo) (cp : BitVec 4) (info : BitVec 3) (crm : RegNo) :
    Acts s (execMcr c opc crn rd cp info crm s) :=
  acts_whenPassed <| acts_refuseIf _ _ fun _ => acts_offerTransfer s fun _ _ hu =>
    acts_advance ((hu.logCoproc _ _).tail (.records _ rfl))

theorem acts_undefinedBtoE : Acts s (undefinedBtoE s) := acts_refuseIf _ _ fun _ => acts_takeUndefined .refl

end

/-- What every instruction can do: updates of the state and one end. The case of a constructor names the operation its
meaning calls. -/
theorem exec_acts (i : Instr) (s : State) : Acts s (exec i s) := by
  cases i
  case b => exact acts_whenPassed (acts_branchTo .refl _)
  case bl => exact acts_whenPassed (acts_branchTo (Updates.writeReg .refl _ _) _)
  case andImm | eorImm | subImm | rsbImm | addImm | adcImm | sbcImm | rscImm | tstImm | teqImm | cmpImm |
      cmnImm | orrImm | movImm | bicImm | mvnImm => exact acts_whenPassed (acts_aluImm s _ _ _ _ _ _)
  case andShiftImm | eorShiftImm | subShiftImm | rsbShiftImm | addShiftImm | adcShiftImm | sbcShiftImm |
      rscShiftImm | tstShiftImm | teqShiftImm | cmpShiftImm | cmnShiftImm | orrShiftImm | movShiftImm |
      bicShiftImm | mvnShiftImm => exact acts_whenPassed (acts_aluShiftImm s _ _ _ _ _ _ _)
  case andShiftReg | eorShiftReg | subShiftReg | rsbShiftReg | addShiftReg | adcShiftReg | sbcShiftReg |
      rscShiftReg | tstShiftReg | teqShiftReg | cmpShiftReg | cmnShiftReg | orrShiftReg | movShiftReg |
      bicShiftReg | mvnShiftReg => exact acts_whenPassed (acts_aluShiftReg s _ _ _ _ _ _ _)
  case mrsCpsr | mrsSpsr => exact acts_whenPassed (acts_moveFromPsr s _ _)
  case msrCpsrImm => exact acts_whenPassed (acts_moveToCpsr s _ _)
  case msrCpsrReg => exact acts_whenPassed (acts_refuseIf _ _ fun _ => acts_moveToCpsr s _ _)
  case msrSpsrImm => exact acts_whenPassed (acts_moveToSpsr s _ _)
  case msrSpsrReg => exact acts_whenPassed (acts_refuseIf _ _ fun _ => acts_moveToSpsr s _ _)
  case mul | mla => exact acts_whenPassed (acts_refuseIf _ _ fun _ => acts_multiply s _ _ _ _ _)
  case umull | umlal | smull | smlal => exact acts_whenPassed (acts_multiplyLong s _ _ _ _ _ _ _)
  case ldrImmPre | ldrImmPost | ldrtImm => exact acts_whenPassed (acts_loadWordReg s _ _ _ _ _ _ _)
  case ldrRegPre | ldrRegPost | ldrtReg =>
    exact acts_whenPassed (acts_checkOffset s (acts_loadWordReg s _ _ _ _ _ _ _))
  case ldrbImmPre | ldrbImmPost | ldrbtImm => exact acts_whenPassed (acts_loadByteReg s _ _ _ _ _ _ _)
  case ldrbRegPre | ldrbRegPost | ldrbtReg =>
    exact acts_whenPassed (acts_checkOffset s (acts_loadByteReg s _ _ _ _ _ _ _))
  case strImmPre | strImmPost | strtImm => exact acts_whenPassed (acts_storeWordReg s _ _ _ _ _ _ _)
  case strRegPre | strRegPost | strtReg =>
    exact acts_whenPassed (acts_checkOffset s (acts_storeWordReg s _ _ _ _ _ _ _))
  case strbImmPre | strbImmPost | strbtImm => exact acts_whenPassed (acts_storeByteReg s _ _ _ _ _ _ _)
  case strbRegPre | strbRegPost | strbtReg =>
    exact acts_whenPassed (acts_checkOffset s (acts_storeByteReg s _ _ _ _ _ _ _))
  case ldrhImmPre | ldrhImmPost | ldrsbImmPre | ldrsbImmPost | ldrshImmPre | ldrshImmPost =>
    exact acts_whenPassed (acts_loadExtendedReg s _ _ _ _ _ _ _)
  case ldrhRegPre | ldrhRegPost | ldrsbRegPre | ldrsbRegPost | ldrshRegPre | ldrshRegPost =>
    exact acts_whenPassed (acts_checkOffset s (acts_loadExtendedReg s _ _ _ _ _ _ _))
  case strhImmPre | strhImmPost => exact acts_whenPassed (acts_storeHalfReg s _ _ _ _ _ _)
  case strhRegPre | strhRegPost => exact acts_whenPassed (acts_checkOffset s (acts_storeHalfReg s _ _ _ _ _ _))
  case ldm => exact acts_execLdm s _ _ _ _ _ _
  case ldmPc => exact acts_execLdmPc s _ _ _ _ _ _
  case ldmUser => exact acts_execLdmUser s _ _ _ _ _ _
  case stm => exact acts_execStm s _ _ _ _ _ _
  case stmUser => exact acts_execStmUser s _ _ _ _ _ _
  case swp => exact acts_execSwp s _ _ _ _
  case swpb => exact acts_execSwpb s _ _ _ _
  case swi | imb | imbRange => exact acts_whenPassed (acts_softwareInterrupt)
  case cdp | ldc | stc => exact acts_whenPassed (acts_offerUnsupported s)
  case mrc => exact acts_execMrc s _ _ _ _ _ _ _
  case mcr => exact acts_execMcr s _ _ _ _ _ _ _
  case undefinedA => exact acts_whenPassed (acts_takeUndefined .refl)
  case undefinedB1 | undefinedB2 | undefinedB3 | undefinedB4 | undefinedB5 | undefinedC | undefinedD1 |
      undefinedD2 | undefinedD3 | undefinedE1 | undefinedE2 | undefinedE3 | undefinedE4 =>
    exact acts_whenPassed (acts_undefinedBtoE s)

end Sys2Proof.Machine
end

section
/-! SUPPORT. The machine's invariant `Inv`: every update, every end and every event of the cycle keeps it. -/

namespace Sys2Proof.Machine

/-! ### The form of the PC -/

/-- A mask of `k` bits from bit 2 on. -/
theorem toNat_and_wordMask (n k : Nat) : n &&& (2 ^ k - 1) * 4 = n / 4 % 2 ^ k * 4 := by
  have h4 : ∀ m, m * 4 = m <<< 2 := fun m => (Nat.shiftLeft_eq m 2).symm
  rw [h4, h4, ← Nat.and_two_pow_sub_one_eq_mod, show n / 4 = n >>> 2 from (Nat.shiftRight_eq_div_pow n 2).symm]
  apply Nat.eq_of_testBit_eq
  intro b
  simp only [Nat.testBit_and, Nat.testBit_shiftLeft, Nat.testBit_shiftRight]
  by_cases hb : b ≥ 2
  · simp [hb]
  · simp [hb]

theorem wordBase_toNat (a : Word) : (wordBase a).toNat = a.toNat / 4 * 4 := by
  have ha := a.isLt
  have h := toNat_and_wordMask a.toNat 30
  rw [wordBase, BitVec.toNat_and, show (0xFFFFFFFC : Word).toNat = (2 ^ 30 - 1) * 4 from rfl, h]
  omega

theorem pcOf_toNat (m : Mode) (a : Word) :
    (pcOf m a).toNat = (if is26 m then a.toNat % 2 ^ 26 else a.toNat) / 4 * 4 := by
  unfold pcOf
  split
  · rw [BitVec.toNat_and, show (0x03FFFFFC : Word).toNat = (2 ^ 24 - 1) * 4 from rfl, toNat_and_wordMask]
    omega
  · exact wordBase_toNat a

/-- An address is a PC of a mode when it is a multiple of 4, in a 26-bit mode below 2^26 (R37, R43). -/
theorem pcWf_iff (s : State) :
    pcWf s = true ↔ s.pc.toNat % 4 = 0 ∧ (is26 s.cpsr.mode = true → s.pc.toNat < 2 ^ 26) := by
  have ha := s.pc.isLt
  unfold pcWf
  rw [beq_iff_eq, ← BitVec.toNat_inj, pcOf_toNat]
  cases is26 s.cpsr.mode
  · simp only [Bool.false_eq_true, if_false, false_imp_iff, and_true]
    omega
  · simp only [if_true, true_imp_iff]
    omega

theorem pcWf_branchTo (s : State) (a : Word) : pcWf (branchTo s a) = true := by
  have ha := a.isLt
  rw [pcWf_iff, branchTo_pc, pcOf_toNat, branchTo_cpsr]
  refine ⟨by omega, fun h26 => ?_⟩
  rw [if_pos h26]
  omega

theorem pcWf_takeException (e : Exc) (ret : Word) (s : State) : pcWf (takeException e ret s) = true := by
  rw [pcWf_iff, takeException_pc, takeException_mode]
  cases e <;> decide

theorem pcWf_advance {s t : State} (hs : pcWf s = true) (h : advance s = .next t) : pcWf t = true := by
  obtain ⟨hfit, rfl⟩ := advance_eq_next.mp h
  rw [pcWf_iff] at hs ⊢
  have := s.pc.isLt
  have hne : is26 s.cpsr.mode = true → s.pc.toNat ≠ 0x03FFFFFC := by
    intro h26 hpc
    have : s.pc = 0x03FFFFFC := BitVec.eq_of_toNat_eq hpc
    simp [h26, this] at hfit
  have hpc : (s.pc + 4).toNat = (s.pc.toNat + 4) % 2 ^ 32 := BitVec.toNat_add ..
  refine ⟨by dsimp only; omega, fun h26 => ?_⟩
  have h1 := hs.2 h26
  have h2 := hne h26
  dsimp only; omega

/-! ### The stale set -/

/-- A word address put into the stale set keeps its form. -/
theorem staleWf_insertStale {l : List Nat} {lo a : Nat} (h : staleWf lo l = true) (hlo : lo ≤ a) (h4 : a % 4 = 0)
    (ha : a < 2 ^ 32) : staleWf lo (insertStale a l) = true := by
  induction l generalizing lo with
  | nil => simp only [insertStale, staleWf, hlo, h4, ha, decide_true, Bool.and_self]
  | cons k l ih =>
    simp only [staleWf, Bool.and_eq_true, decide_eq_true_eq] at h
    obtain ⟨⟨⟨hk, hk4⟩, hk32⟩, hl⟩ := h
    unfold insertStale
    split
    · simp only [staleWf, Bool.and_eq_true, decide_eq_true_eq]
      exact ⟨⟨⟨hlo, h4⟩, ha⟩, ⟨⟨by omega, hk4⟩, hk32⟩, hl⟩
    · split <;> simp only [staleWf, Bool.and_eq_true, decide_eq_true_eq]
      · exact ⟨⟨⟨hk, hk4⟩, hk32⟩, hl⟩
      · exact ⟨⟨⟨hk, hk4⟩, hk32⟩, ih hl (by omega)⟩

/-! ### Updates and ends -/

section
variable {s t : State}

/-- The invariant reads the PC, the mode, memory and the stale set alone. -/
theorem Inv.congr (h : Inv s) (hpc : t.pc = s.pc) (hmode : t.cpsr.mode = s.cpsr.mode) (hmem : t.mem = s.mem)
    (hstale : t.stale = s.stale) : Inv t := by
  unfold Inv pcWf
  rw [hpc, hmode, hmem, hstale]
  exact h

/-- The PC may be replaced by any well-formed one. -/
theorem Inv.of_pcWf (h : Inv s) (hpc : pcWf t = true) (hmem : t.mem = s.mem) (hstale : t.stale = s.stale) : Inv t :=
  ⟨hpc, hmem ▸ h.2.1, hstale ▸ h.2.2⟩

theorem Inv.takeException (h : Inv s) (e : Exc) (ret : Word) : Inv (takeException e ret s) :=
  h.of_pcWf (pcWf_takeException e ret s) (takeException_mem ..) (takeException_stale ..)

theorem Inv.advance (h : Inv s) (ht : advance s = .next t) : Inv t := by
  have hpc := pcWf_advance h.1 ht
  obtain ⟨-, rfl⟩ := advance_eq_next.mp ht
  exact h.of_pcWf hpc rfl rfl

/-- A data write joins the stale set. -/
theorem Inv.markStale (h : Inv s) (hpc : t.pc = s.pc) (hmode : t.cpsr.mode = s.cpsr.mode) (hmem : t.mem.wf = true)
    (hstale : t.stale = s.stale) (a : Word) : Inv (markStale t a) := by
  obtain ⟨hp, -, hs⟩ := h
  refine ⟨?_, hmem, staleWf_insertStale (hstale ▸ hs) (Nat.zero_le _) (by rw [wordBase_toNat]; omega) (wordBase a).isLt⟩
  rw [← hp]
  simp only [pcWf, markStale_pc, markStale_cpsr, hpc, hmode]

theorem Inv.update (h : Inv s) (hu : Update s t) : Inv t := by
  cases hu with
  | reg r v => exact h.congr (by simp) (by simp) (by simp) (by simp)
  | flags p hi hf hm => exact h.congr rfl hm rfl rfl
  | control p hp hm =>
    obtain ⟨hpc, hmem, hstale⟩ := h
    refine ⟨?_, hmem, hstale⟩
    rw [pcWf_iff] at hpc ⊢
    obtain ⟨h4, h26⟩ := hpc
    refine ⟨h4, fun hp26 => ?_⟩
    cases hs : is26 s.cpsr.mode
    · simp only [enters26Outside, show is26 p.mode = true from hp26, hs] at hm
      simp at hm
      dsimp only; omega
    · exact h26 hs
  | spsr b p => exact h.congr (by simp) (by simp) (by simp) (by simp)
  | byte a v => exact h.markStale (t := setByte s a v) rfl rfl (setByte_wf s a v h.2.1) rfl a
  | half a v => exact h.markStale (by simp) (by simp) (setHalf_wf s a v h.2.1) (by simp) a
  | word a v => exact h.markStale (by simp) (by simp) (setWord_wf s a v h.2.1) (by simp) a
  | records _ hu => rw [hu]; exact h.congr rfl rfl rfl rfl

theorem Inv.updates (h : Inv s) (hu : Updates s t) : Inv t := by
  induction hu with
  | refl => exact h
  | tail _ hu ih => exact ih.update hu

theorem Inv.ends (h : Inv s) (ht : Ends s t) : Inv t := by
  cases ht with
  | next ht => exact h.advance ht
  | jump a => exact h.of_pcWf (pcWf_branchTo s a) rfl rfl
  | raise e ret => exact h.takeException e ret
  | swi =>
    obtain ⟨hpc, hmem, -⟩ := h.takeException .swi (s.pc + 4)
    exact ⟨hpc, hmem, rfl⟩
  | hold => exact h

theorem Inv.acts {k : Result} (h : Inv s) (hk : Acts s k) (ht : k = .next t) : Inv t := by
  obtain ⟨u, hu, he⟩ := hk t ht
  exact (h.updates hu).ends he

/-! ### The cycle -/

theorem Inv.expireImb (h : Inv t) (s : State) : Inv (expireImb s t) := by
  unfold Machine.expireImb
  split
  · exact h
  · exact h

theorem Inv.execDecoded (h : Inv s) (d : Decoded) (ht : execDecoded d s = .next t) : Inv t := by
  cases d with
  | instr i =>
    obtain ⟨-, u, hu, rfl⟩ := execDecoded_instr_eq_next.mp ht
    exact (h.acts (exec_acts i s) hu).expireImb s
  | reserved c why =>
    simp only [Machine.execDecoded] at ht
    split at ht
    · cases ht
    · cases hk : whenPassed c s (.refused (reservedRefusal why)) with
      | next u =>
        rw [hk] at ht
        cases ht
        exact (h.acts (acts_whenPassed (acts_refused _)) hk).expireImb s
      | fault r => rw [hk] at ht; cases ht
      | refused r => rw [hk] at ht; cases ht
  | reservedCondition => cases ht

theorem Inv.runInstruction (h : Inv s) (ht : runInstruction s = .next t) : Inv t := by
  rcases runInstruction_eq_next.mp ht with ⟨-, rfl⟩ | ⟨-, -, hd⟩
  · exact (h.takeException .prefetchAbort (s.pc + 4)).congr rfl rfl rfl rfl
  · exact h.execDecoded _ hd

theorem Inv.abandonWait (h : Inv t) : Inv (abandonWait t) := by
  unfold Machine.abandonWait
  split
  · exact h
  · exact h

theorem Inv.sampleInterrupts (h : Inv t) (l : Lines) : Inv (sampleInterrupts l t) := by
  unfold Machine.sampleInterrupts
  split
  · exact h.abandonWait.takeException .fiq _
  · split
    · exact h.abandonWait.takeException .irq _
    · exact h

theorem Memory.lt_of_wfFrom {m : Memory} {lo : Nat} (h : m.wfFrom lo = true) : ∀ c ∈ m, c.1 < 2 ^ 32 := by
  induction m generalizing lo with
  | nil => simp
  | cons c m ih =>
    simp only [Memory.wfFrom, Bool.and_eq_true, decide_eq_true_eq] at h
    obtain ⟨⟨⟨-, hk⟩, -⟩, hm⟩ := h
    intro d hd
    rcases List.mem_cons.mp hd with rfl | hd
    · exact hk
    · exact ih hm d hd

/-- The memory an abandoned instruction leaves is in canonical form: it is made by writes at listed addresses. -/
theorem wf_abandonedMemory (tick : Nat) {old new : Memory} (ho : old.wf = true) (hn : new.wf = true) :
    (abandonedMemory tick old new).wf = true := by
  have hlt : ∀ c ∈ old ++ new, c.1 < 2 ^ 32 := by
    intro c hc
    exact (List.mem_append.mp hc).elim (Memory.lt_of_wfFrom ho c) (Memory.lt_of_wfFrom hn c)
  unfold abandonedMemory
  generalize old ++ new = cells at hlt
  induction cells using List.reverseRecOn with
  | nil => exact ho
  | append_singleton l c ih =>
    have hl := ih fun d hd => hlt d (List.mem_append_left _ hd)
    rw [List.foldl_append, List.foldl_cons, List.foldl_nil]
    split
    · exact Memory.wf_write _ hl (hlt c (by simp))
    · exact hl

theorem Inv.enterReset (hs : Inv s) (ht : Inv t) : Inv (enterReset s t) := by
  obtain ⟨hpc, hmem, hstale⟩ := ht.abandonWait
  have hm : (Machine.abandonWait t).mem = t.mem := by unfold Machine.abandonWait; split <;> rfl
  exact ⟨hpc, wf_abandonedMemory s.tick hs.2.1 (hm ▸ hmem), hstale⟩

theorem Inv.endStep (hs : Inv s) (ht : Inv t) : Inv (endStep s t) := by
  unfold Machine.endStep countStep
  dsimp only
  split
  · exact hs.enterReset ht
  · exact ht.sampleInterrupts _

theorem Inv.resetStep (h : Inv s) : Inv (resetStep s) := by
  unfold Machine.resetStep countStep
  split
  · exact h
  · exact ⟨(pcWf_iff _).mpr ⟨rfl, nofun⟩, h.2.1, rfl⟩

/-- Every step keeps the invariant: a step of reset, or an instruction and the sampling of the pins. -/
theorem Inv.step (h : Inv s) (ht : step s = .next t) : Inv t := by
  rcases cycle_eq_next.mp ht with ⟨-, rfl⟩ | ⟨-, u, hu, rfl⟩
  · exact h.resetStep
  · exact h.endStep (h.runInstruction hu)

end

/-! ### The obligations -/

/-- Settles O58. -/
theorem invariantAtReset : Obligations.InvariantAtReset := by
  refine ⟨?_, rfl, rfl⟩
  decide

/-- Settles O59: one step at a time, from what an instruction's updates and ends, the pins and reset can do. -/
theorem invariantKept : Obligations.InvariantKept := fun _ _ hs ht => hs.step ht

end Sys2Proof.Machine
end

section
/-! SUPPORT. What User mode protects (R46, R50): every update an instruction executed there can make keeps it. -/

namespace Sys2Proof.Machine

/-- In User mode an instruction writes no register banked in an exception mode. -/
theorem not_isExceptionBanked_of_writable {m : Mode} {r : PhysReg} (hm : isPrivileged m = false) (hr : Writable m r) :
    isExceptionBanked r = false := by
  have hview : ∀ i, physReg m i = physReg .usr i := by
    rcases isPrivileged_eq_false.mp hm with rfl | rfl <;> exact fun _ => rfl
  have hall : ∀ i : RegNo, (physReg .usr i).all (fun r => !isExceptionBanked r) = true := by decide
  obtain ⟨i, hi⟩ : ∃ i, physReg .usr i = some r := hr.elim (fun ⟨i, hi⟩ => ⟨i, hview i ▸ hi⟩) id
  simpa [hi] using hall i

/-- The protected state: I, F, the mode, the SPSRs and the registers banked in an exception mode. -/
structure ProtectedKept (s t : State) : Prop where
  mode : t.cpsr.mode = s.cpsr.mode
  i : t.cpsr.i = s.cpsr.i
  f : t.cpsr.f = s.cpsr.f
  spsr : t.spsr = s.spsr
  banked : ∀ r, isExceptionBanked r = true → getPhys t r = getPhys s r

/-- An exception raised in `s` was entered: a privileged mode at its vector with I set (R506, R546). -/
structure RaisedFrom (s t : State) : Prop where
  i : t.cpsr.i = true
  f : t.cpsr.f = s.cpsr.f
  vector : (t.cpsr.mode = .und ∧ t.pc = 0x04) ∨ (t.cpsr.mode = .svc ∧ t.pc = 0x08) ∨ (t.cpsr.mode = .abt ∧ t.pc = 0x10)
  banked : ∀ r, isExceptionBanked r = true → r ≠ .r14 (modeBank t.cpsr.mode) → getPhys t r = getPhys s r

/-- An exception entry writes one general register, R14 of the mode entered. -/
theorem getPhys_takeException_other (s : State) (e : Exc) (ret : Word) {r : PhysReg}
    (hr : r ≠ .r14 (modeBank (excMode e))) : getPhys (takeException e ret s) r = getPhys s r :=
  calc getPhys (takeException e ret s) r
      = getPhys (setPhys s (.r14 (modeBank (excMode e))) (returnAddress s.cpsr.mode ret)) r :=
        getPhys_congr (setSpsr_regs _ _ _) r
    _ = getPhys s r := getPhys_setPhys_other s _ hr

namespace ProtectedKept

variable {s u t : State}

theorem refl (s : State) : ProtectedKept s s := ⟨rfl, rfl, rfl, rfl, fun _ _ => rfl⟩

/-- A change that reaches neither the general registers nor the protected part of the status registers. -/
theorem congr (h : ProtectedKept s u) (hmode : t.cpsr.mode = u.cpsr.mode) (hi : t.cpsr.i = u.cpsr.i)
    (hf : t.cpsr.f = u.cpsr.f) (hspsr : t.spsr = u.spsr) (hregs : t.regs = u.regs) : ProtectedKept s t :=
  ⟨hmode.trans h.mode, hi.trans h.i, hf.trans h.f, hspsr.trans h.spsr,
    fun r hr => (getPhys_congr hregs r).trans (h.banked r hr)⟩

theorem update (h : ProtectedKept s u) (hs : isPrivileged s.cpsr.mode = false) (hu : Update u t) :
    ProtectedKept s t := by
  have hup : isPrivileged u.cpsr.mode = false := h.mode ▸ hs
  cases hu with
  | reg r v hr =>
    have hb := not_isExceptionBanked_of_writable hup hr
    refine ⟨by simp [h.mode], by simp [h.i], by simp [h.f], by simp [h.spsr], fun q hq => ?_⟩
    have hne : q ≠ r := by rintro rfl; simp [hb] at hq
    rw [getPhys_setPhys_other _ _ hne, h.banked q hq]
  | flags p hi hf hm => exact h.congr hm hi hf rfl rfl
  | control p hp => exact absurd hp (by simp [hup])
  | spsr b p hp => exact absurd hp (by simp [hup])
  | byte a v => exact h.congr rfl rfl rfl rfl rfl
  | half a v => exact h.congr (by simp) (by simp) (by simp) (by simp) (by simp)
  | word a v => exact h.congr (by simp) (by simp) (by simp) (by simp) (by simp)
  | records _ hu => rw [hu]; exact h.congr rfl rfl rfl rfl rfl

theorem updates (h : ProtectedKept s u) (hs : isPrivileged s.cpsr.mode = false) (hu : Updates u t) :
    ProtectedKept s t := by
  induction hu with
  | refl => exact h
  | tail _ hu ih => exact ih.update hs hu

theorem takeException (h : ProtectedKept s u) {e : Exc} (he : e.isRaised = true) (ret : Word) :
    RaisedFrom s (takeException e ret u) := by
  have hregs : ∀ r, isExceptionBanked r = true → r ≠ .r14 (modeBank (excMode e)) →
      getPhys (Machine.takeException e ret u) r = getPhys s r := fun r hr hne =>
    (getPhys_takeException_other u e ret hne).trans (h.banked r hr)
  cases e with
  | undefined => exact ⟨rfl, h.f, .inl ⟨rfl, rfl⟩, hregs⟩
  | swi => exact ⟨rfl, h.f, .inr (.inl ⟨rfl, rfl⟩), hregs⟩
  | dataAbort => exact ⟨rfl, h.f, .inr (.inr ⟨rfl, rfl⟩), hregs⟩
  | prefetchAbort => cases he
  | irq => cases he
  | fiq => cases he

theorem ends (h : ProtectedKept s u) (ht : Ends u t) : ProtectedKept s t ∨ RaisedFrom s t := by
  cases ht with
  | next ht =>
    obtain ⟨-, rfl⟩ := advance_eq_next.mp ht
    exact .inl (h.congr rfl rfl rfl rfl rfl)
  | jump a => exact .inl (h.congr rfl rfl rfl rfl rfl)
  | raise e ret he => exact .inr (h.takeException he ret)
  | swi =>
    obtain ⟨hi, hf, hv, hb⟩ := h.takeException (e := .swi) rfl (u.pc + 4)
    exact .inr ⟨hi, hf, hv, fun r hr hne => (getPhys_congr rfl r).trans (hb r hr hne)⟩
  | hold => exact .inl h

end ProtectedKept

/-! ### The obligations -/

/-- Settles O60: in User mode every update keeps the protected state, so that only the end of an instruction can change it,
by the exception it raises. -/
theorem userProtection : Obligations.UserProtection := by
  intro i s t hs ht
  obtain ⟨u, hu, he⟩ := exec_acts i s t ht
  rcases ((ProtectedKept.refl s).updates hs hu).ends he with h | h
  · exact .inl ⟨h.mode, h.i, h.f, h.spsr, h.banked⟩
  · exact .inr ⟨h.i, h.f, h.vector, h.banked⟩

end Sys2Proof.Machine
end

section
/-! SUPPORT. The instructions of data processing and of the single and halfword transfers as the operation each calls, and the
refusal of R15 as an operand in a 26-bit mode (spec/10_state.md R43, log 12). -/

namespace Sys2Proof.Machine

open Sys2Proof.Claims

/-! ### What an instruction calls -/

theorem exec_dp_imm (op : AluOp) (c : Cond) (sb : Bool) (rn rd : RegNo) (r : BitVec 4) (k : BitVec 8) (s : State) :
    exec (dp op c sb rn rd (.imm r k)) s = whenPassed c s (aluImm op (op.isTest || sb) rn rd r k s) := by
  cases op <;> rfl

theorem exec_dp_shiftImm (op : AluOp) (c : Cond) (sb : Bool) (rn rd : RegNo) (n : BitVec 5) (ty : ShiftType) (rm : RegNo)
    (s : State) :
    exec (dp op c sb rn rd (.shiftImm n ty rm)) s
      = whenPassed c s (aluShiftImm op (op.isTest || sb) rn rd n ty rm s) := by
  cases op <;> rfl

/-- The W bit of a single transfer: a T form is post-indexed with W = 1 (R347). -/
def indexW : Index → Bool
  | .pre wb => wb
  | .post => false
  | .user => true

theorem writesBack_index (ix : Index) : writesBack (isPre ix) (indexW ix) = writesBase ix := by
  cases ix <;> rfl

/-- The operation of a single transfer. -/
def singleOp (k : Single) (priv pre up wb : Bool) (rn rd : RegNo) (off : Word) (s : State) : Result :=
  match k with
  | .ldr => loadWordReg priv pre up wb rn rd off s
  | .ldrb => loadByteReg priv pre up wb rn rd off s
  | .str => storeWordReg priv pre up wb rn rd off s
  | .strb => storeByteReg priv pre up wb rn rd off s

theorem exec_single_imm (k : Single) (c : Cond) (up : Bool) (rn rd : RegNo) (ix : Index) (v : BitVec 12) (s : State) :
    exec (single k c up rn rd ix (.imm v)) s
      = whenPassed c s (singleOp k (accessPrivileged s ix) (isPre ix) up (indexW ix) rn rd (v.setWidth 32) s) := by
  cases k <;> cases ix <;> rfl

theorem exec_single_reg (k : Single) (c : Cond) (up : Bool) (rn rd : RegNo) (ix : Index) (n : BitVec 5) (ty : ShiftType)
    (rm : RegNo) (s : State) :
    exec (single k c up rn rd ix (.reg n ty rm)) s
      = whenPassed c s (checkOffset (isPre ix) rn rm
          (singleOp k (accessPrivileged s ix) (isPre ix) up (indexW ix) rn rd (shiftedOffset s n ty rm) s)) := by
  cases k <;> cases ix <;> rfl

/-- The P and W bits of a halfword transfer: the post-indexed form has W = 0 and writes back all the same (R372). -/
theorem writesBack_half (pre : Option Bool) : writesBack pre.isSome (pre.getD false) = halfWritesBase pre := by
  cases pre <;> rfl

/-- The operation of a halfword or signed transfer. -/
def halfOp (k : HalfKind) (pre up wb : Bool) (rn rd : RegNo) (off : Word) (s : State) : Result :=
  match k with
  | .ldrh => loadExtendedReg pre up wb rn rd off (halfwordAccess s) s
  | .ldrsb => loadExtendedReg pre up wb rn rd off (signedByteAccess s) s
  | .ldrsh => loadExtendedReg pre up wb rn rd off (signedHalfwordAccess s) s
  | .strh => storeHalfReg pre up wb rn rd off s

theorem exec_half_imm (k : HalfKind) (c : Cond) (up : Bool) (rn rd : RegNo) (pre : Option Bool) (v : BitVec 8)
    (s : State) :
    exec (half k c up rn rd pre (.imm v)) s
      = whenPassed c s (halfOp k pre.isSome up (pre.getD false) rn rd (v.setWidth 32) s) := by
  cases k <;> cases pre <;> rfl

theorem exec_half_reg (k : HalfKind) (c : Cond) (up : Bool) (rn rd : RegNo) (pre : Option Bool) (rm : RegNo)
    (s : State) :
    exec (half k c up rn rd pre (.reg rm)) s
      = whenPassed c s (checkOffset pre.isSome rn rm
          (halfOp k pre.isSome up (pre.getD false) rn rd (readReg s .m rm) s)) := by
  cases k <;> cases pre <;> rfl

/-! ### The refusal -/

section
variable {s : State}

theorem readsPc26_of_is26 (h26 : is26 s.cpsr.mode = true) (b : Bool) : readsPc26 s b = b := by
  simp [readsPc26, h26]

theorem readsRn15_eq_true {op : AluOp} {rn : RegNo} : readsRn15 op rn = true ↔ readsRn op ∧ rn = 15 := by
  cases op <;> simp [readsRn15, readsRn, AluOp.ignoresRn]

theorem checkOffset_pass {pre : Bool} {rn rm : RegNo} {k : Result} (h15 : rm ≠ 15) (hpost : pre = false → rm ≠ rn) :
    checkOffset pre rn rm k = k := by
  have hp : (!pre && rm == rn) = false := by cases pre <;> simp_all
  rw [checkOffset, hp, beq_false_of_ne h15]
  rfl

/-- A single transfer that reads R15 and that R348 to R353 let pass. -/
theorem singleOp_pc26 {k : Single} {priv pre up wb : Bool} {rn rd : RegNo} {off : Word} (h26 : is26 s.cpsr.mode = true)
    (hbase : ¬ (writesBack pre wb = true ∧ rn = 15)) (hbyte : ¬ (k ∈ [Single.ldrb, .strb] ∧ rd = 15))
    (hload : ¬ (k ∈ [Single.ldr, .ldrb] ∧ writesBack pre wb = true ∧ rd = rn)) (h15 : rn = 15 ∨ (k = .str ∧ rd = 15)) :
    singleOp k priv pre up wb rn rd off s = .refused .r15ReadIn26BitMode := by
  have refuse : ∀ (load byte : Bool) (body : Result), (byte = true → rd ≠ 15) →
      (load = true → ¬ (writesBack pre wb = true ∧ rd = rn)) → (rn = 15 ∨ (load = false ∧ rd = 15)) →
      checkSingle load byte pre wb rn rd s body = .refused .r15ReadIn26BitMode := by
    intro load byte body hb hl hr
    have h1 : (writesBack pre wb && rn == 15) = false := by simpa using hbase
    have h2 : (byte && rd == 15) = false := by simpa using hb
    have h3 : (load && writesBack pre wb && rd == rn) = false := by simpa using hl
    have h4 : (rn == 15 || (!load && rd == 15)) = true := by simpa using hr
    rw [checkSingle, h1, h2, h3, readsPc26_of_is26 h26, h4]
    rfl
  cases k with
  | ldr => exact refuse true false _ (by simp) (by simpa using hload) (by simpa using h15)
  | ldrb => exact refuse true true _ (by simpa using hbyte) (by simpa using hload) (by simpa using h15)
  | str => exact refuse false false _ (by simp) (by simp) (by simpa using h15)
  | strb => exact refuse false true _ (by simpa using hbyte) (by simp) (.inl (by simpa using h15))

/-- A halfword or signed transfer with R15 as its base that R378 lets pass. -/
theorem halfOp_pc26 {k : HalfKind} {pre up wb : Bool} {rd : RegNo} {off : Word} (h26 : is26 s.cpsr.mode = true)
    (hrd : rd ≠ 15) (hbase : writesBack pre wb = false) :
    halfOp k pre up wb 15 rd off s = .refused .r15ReadIn26BitMode := by
  have refuse : ∀ (load : Bool) (body : Result), checkHalf load pre wb 15 rd s body = .refused .r15ReadIn26BitMode := by
    intro load body
    rw [checkHalf, hbase, readsPc26_of_is26 h26, beq_false_of_ne hrd, Bool.and_false]
    rfl
  cases k <;> exact refuse _ _

theorem sBitForbidden_eq_true : sBitForbidden s = true ↔ noSpsr s.cpsr.mode := by
  unfold sBitForbidden currentSpsr noSpsr
  cases s.cpsr.mode <;> simp [modeBank, getSpsr]

theorem checkBlock_pass {rn : RegNo} {list : BitVec 16} {k : Result} (hrn : rn ≠ 15) (hlist : list ≠ 0) :
    checkBlock rn list k = k := by
  rw [checkBlock, beq_false_of_ne hrn, beq_false_of_ne hlist]
  rfl

end

/-! ### The forms of R43 -/

section
variable {c : Cond} {s : State} (hc : conditionPassed c s.cpsr = true) (h26 : is26 s.cpsr.mode = true)
include hc h26

theorem dp_imm_pc26 {op : AluOp} (hop : readsRn op) (sb : Bool) (rd : RegNo) (r : BitVec 4) (k : BitVec 8) :
    exec (dp op c sb 15 rd (.imm r k)) s = .refused .r15ReadIn26BitMode := by
  rw [exec_dp_imm, whenPassed_pass hc, aluImm, readsPc26_of_is26 h26, readsRn15_eq_true.mpr ⟨hop, rfl⟩, refuseIf_true]

theorem dp_shiftImm_pc26 {op : AluOp} {rn rm : RegNo} (h15 : rm = 15 ∨ (readsRn op ∧ rn = 15)) (sb : Bool) (rd : RegNo)
    (n : BitVec 5) (ty : ShiftType) :
    exec (dp op c sb rn rd (.shiftImm n ty rm)) s = .refused .r15ReadIn26BitMode := by
  have hreads : (readsRn15 op rn || rm == 15) = true := by
    rw [Bool.or_eq_true, readsRn15_eq_true, beq_iff_eq]
    exact h15.symm
  rw [exec_dp_shiftImm, whenPassed_pass hc, aluShiftImm, readsPc26_of_is26 h26, hreads, refuseIf_true]

theorem single_pc26 {k : Single} {up : Bool} {rn rd : RegNo} {ix : Index} {o : Offset}
    (hok : ¬ SingleForbidden s k up rn rd ix o) (h15 : rn = 15 ∨ (k = .str ∧ rd = 15)) :
    exec (single k c up rn rd ix o) s = .refused .r15ReadIn26BitMode := by
  simp only [SingleForbidden, not_or, ← writesBack_index] at hok
  obtain ⟨hbase, hbyte, hload, -, hoff⟩ := hok
  cases o with
  | imm v => rw [exec_single_imm, whenPassed_pass hc, singleOp_pc26 h26 hbase hbyte hload h15]
  | reg n ty rm =>
    obtain ⟨hrm, hpost⟩ := not_or.mp hoff
    rw [exec_single_reg, whenPassed_pass hc, checkOffset_pass hrm fun hp e => hpost ⟨hp, e⟩,
      singleOp_pc26 h26 hbase hbyte hload h15]

theorem half_pc26 {k : HalfKind} {up : Bool} {rd : RegNo} {pre : Option Bool} {o : HalfOffset}
    (hok : ¬ HalfForbidden s k up 15 rd pre o) : exec (half k c up 15 rd pre o) s = .refused .r15ReadIn26BitMode := by
  simp only [HalfForbidden, not_or, ← writesBack_half] at hok
  obtain ⟨hrd, hbase, -, -, hoff⟩ := hok
  have hwb : writesBack pre.isSome (pre.getD false) = false := by simpa using hbase
  cases o with
  | imm v => rw [exec_half_imm, whenPassed_pass hc, halfOp_pc26 h26 hrd hwb]
  | reg rm =>
    obtain ⟨hrm, hpost⟩ := not_or.mp hoff
    have hp : pre.isSome = false → rm ≠ 15 := fun _ => hrm
    rw [exec_half_reg, whenPassed_pass hc, checkOffset_pass hrm hp, halfOp_pc26 h26 hrd hwb]

theorem stm_pc26 {rn : RegNo} {list : BitVec 16} (hrn : rn ≠ 15) (hlist : list.getLsbD 15 = true) (pre up wb : Bool) :
    exec (.stm c pre up wb rn list) s = .refused .r15ReadIn26BitMode := by
  have hne : list ≠ 0 := by rintro rfl; simp at hlist
  calc exec (.stm c pre up wb rn list) s
      = execStm c pre up wb rn list s := rfl
    _ = .refused .r15ReadIn26BitMode := by
      rw [execStm, whenPassed_pass hc, checkBlock_pass hrn hne, readsPc26_of_is26 h26, hlist, refuseIf_true]

theorem stmUser_pc26 {rn : RegNo} {list : BitVec 16} (hrn : rn ≠ 15) (hlist : list.getLsbD 15 = true)
    (hspsr : ¬ noSpsr s.cpsr.mode) (pre up : Bool) :
    exec (.stmUser c pre up false rn list) s = .refused .r15ReadIn26BitMode := by
  have hne : list ≠ 0 := by rintro rfl; simp at hlist
  have hs : sBitForbidden s = false := Bool.eq_false_iff.mpr fun h => hspsr (sBitForbidden_eq_true.mp h)
  calc exec (.stmUser c pre up false rn list) s
      = execStmUser c pre up false rn list s := rfl
    _ = .refused .r15ReadIn26BitMode := by
      rw [execStmUser, whenPassed_pass hc, checkBlock_pass hrn hne, hs, refuseIf_false, refuseIf_false,
        readsPc26_of_is26 h26, hlist, refuseIf_true]

end

/-! ### The obligations -/

/-- Settles O53, form by form. -/
theorem pcReadsIn26BitModes : Obligations.PcReadsIn26BitModes := by
  intro c s hc h26
  refine ⟨?_, ?_, ?_, ?_, ?_⟩
  · intro op sb rd r k hop
    exact dp_imm_pc26 hc h26 hop sb rd r k
  · intro op sb rn rd n ty rm h15
    exact dp_shiftImm_pc26 hc h26 h15 sb rd n ty
  · intro k up rn rd ix o hok h15
    exact single_pc26 hc h26 hok h15
  · intro k up rd pre o hok
    exact half_pc26 hc h26 hok
  · intro pre up rn list hrn hlist
    exact ⟨fun wb => stm_pc26 hc h26 hrn hlist pre up wb, fun hspsr => stmUser_pc26 hc h26 hrn hlist hspsr pre up⟩

end Sys2Proof.Machine
end

section
/-! SUPPORT. Words and halfwords as the bytes of memory they lie in, in both byte orders (spec/20_memory.md R85 to R93,
log 20), and the Instruction Memory Barrier (R127, R129, log 9). -/

namespace Sys2Proof.Machine

open Sys2Proof.Claims

/-! ### Byte lanes -/

/-- The byte of a value of `n` bytes, counted from the least significant, that lies at offset `k` of its address. -/
def lane (big : Bool) (n k : Nat) : Nat := if big then n - 1 - k else k

@[simp] theorem lane_true (n k : Nat) : lane true n k = n - 1 - k := rfl

@[simp] theorem lane_false (n k : Nat) : lane false n k = k := rfl

theorem lane_lt {n k : Nat} (big : Bool) (h : k < n) : lane big n k < n := by
  cases big
  · exact h
  · rw [lane_true]
    omega

theorem lane_lane {n k : Nat} (big : Bool) (h : k < n) : lane big n (lane big n k) = k := by
  cases big
  · rfl
  · rw [lane_true, lane_true]
    omega

/-- A value is determined by its bytes, in whatever order they lie. -/
theorem eq_of_lanes_eq {n : Nat} {x y : BitVec (8 * n)} (big : Bool)
    (h : ∀ k < n, x.extractLsb' (8 * lane big n k) 8 = y.extractLsb' (8 * lane big n k) 8) : x = y := by
  apply BitVec.eq_of_getLsbD_eq
  intro i hi
  have hbyte : i / 8 < n := by omega
  have hmod : i % 8 < 8 := Nat.mod_lt _ (by omega)
  have hl := congrArg (fun b => b.getLsbD (i % 8)) (h _ (lane_lt big hbyte))
  simpa only [lane_lane big hbyte, BitVec.getLsbD_extractLsb', hmod, decide_true, Bool.true_and, Nat.div_add_mod] using hl

/-! ### Reads -/

/-- Byte `k` from the least significant of the value of `n` bytes at an address. -/
def laneByte (s : State) (first : Word) (n k : Nat) : Byte := byteAt s (first + BitVec.ofNat 32 (lane s.bigend n k))

theorem laneByte_lane (s : State) (first : Word) {n k : Nat} (hk : k < n) :
    laneByte s first n (lane s.bigend n k) = byteAt s (first + BitVec.ofNat 32 k) := by
  rw [laneByte, lane_lane _ hk]

theorem wordAt_eq_append (s : State) (a : Word) :
    let f := laneByte s (wordBase a) 4
    wordAt s a = f 3 ++ f 2 ++ f 1 ++ f 0 := by
  unfold wordAt laneByte
  cases s.bigend <;> simp

theorem halfAt_eq_append (s : State) (a : Word) : halfAt s a = laneByte s a 2 1 ++ laneByte s a 2 0 := by
  unfold halfAt laneByte
  cases s.bigend <;> simp

/-- Above the lowest byte the bytes are those of the value in front of it. -/
theorem extractLsb'_append_byte_succ {w : Nat} (x : BitVec w) (b : Byte) (k : Nat) :
    (x ++ b).extractLsb' (8 * (k + 1)) 8 = x.extractLsb' (8 * k) 8 :=
  BitVec.extractLsb'_append_eq_of_le (by omega)

theorem extractLsb'_append_two (f : Nat → Byte) : ∀ {k : Nat}, k < 2 →
    (f 1 ++ f 0).extractLsb' (8 * k) 8 = f k
  | 0, _ => BitVec.extractLsb'_append_eq_right
  | 1, _ => BitVec.extractLsb'_append_eq_left

theorem extractLsb'_append_four (f : Nat → Byte) : ∀ {k : Nat}, k < 4 →
    (f 3 ++ f 2 ++ f 1 ++ f 0).extractLsb' (8 * k) 8 = f k
  | 0, _ => BitVec.extractLsb'_append_eq_right
  | 1, _ => (extractLsb'_append_byte_succ _ _ 0).trans BitVec.extractLsb'_append_eq_right
  | k + 2, hk => by
    rw [extractLsb'_append_byte_succ, extractLsb'_append_byte_succ]
    exact extractLsb'_append_two (fun i => f (i + 2)) (by omega)

/-- The bytes of a word (R85, R86). -/
theorem wordAt_lane (s : State) (a : Word) {k : Nat} (hk : k < 4) :
    (wordAt s a).extractLsb' (8 * lane s.bigend 4 k) 8 = byteAt s (wordBase a + BitVec.ofNat 32 k) := by
  rw [wordAt_eq_append, ← laneByte_lane s _ hk]
  exact extractLsb'_append_four _ (lane_lt _ hk)

/-- The bytes of a halfword (R89). -/
theorem halfAt_lane (s : State) (a : Word) {k : Nat} (hk : k < 2) :
    (halfAt s a).extractLsb' (8 * lane s.bigend 2 k) 8 = byteAt s (a + BitVec.ofNat 32 k) := by
  rw [halfAt_eq_append, ← laneByte_lane s _ hk]
  exact extractLsb'_append_two _ (lane_lt _ hk)

/-! ### Writes -/

/-- Byte `f k` written at offset `k` from `first`, for the offsets below a number. -/
def setBytes (s : State) (first : Word) (f : Nat → Byte) : Nat → State
  | 0 => s
  | n + 1 => setByte (setBytes s first f n) (first + BitVec.ofNat 32 n) (f n)

@[simp] theorem setBytes_zero (s : State) (first : Word) (f : Nat → Byte) : setBytes s first f 0 = s := rfl

@[simp] theorem setBytes_succ (s : State) (first : Word) (f : Nat → Byte) (n : Nat) :
    setBytes s first f (n + 1) = setByte (setBytes s first f n) (first + BitVec.ofNat 32 n) (f n) := rfl

theorem setByte_eq_setBytes (s : State) (a : Word) (v : Byte) : setByte s a v = setBytes s a (fun _ => v) 1 := by
  simp

/-- A halfword write is the write of its two bytes (R92). -/
theorem setHalf_eq_setBytes (s : State) (a : Word) (v : Half) :
    setHalf s a v = setBytes s a (fun k => v.extractLsb' (8 * lane s.bigend 2 k) 8) 2 := by
  unfold setHalf
  cases s.bigend <;> simp

/-- A word write is the write of its four bytes from the word's own address on (R93, D5). -/
theorem setWord_eq_setBytes (s : State) (a v : Word) :
    setWord s a v = setBytes s (wordBase a) (fun k => v.extractLsb' (8 * lane s.bigend 4 k) 8) 4 := by
  unfold setWord
  cases s.bigend <;> simp [field]

/-- A byte written is read back. -/
theorem byteAt_setBytes (s : State) (first : Word) (f : Nat → Byte) {n k : Nat} (hk : k < n) (hn : n ≤ 2 ^ 32) :
    byteAt (setBytes s first f n) (first + BitVec.ofNat 32 k) = f k := by
  induction n with
  | zero => omega
  | succ n ih =>
    rw [setBytes_succ, byteAt_setByte]
    by_cases hkn : k = n
    · rw [if_pos (by rw [hkn]), hkn]
    · have hne : first + BitVec.ofNat 32 k ≠ first + BitVec.ofNat 32 n := by bv_omega
      rw [if_neg hne, ih (by omega) (by omega)]

/-- No other byte is written (R91 to R93). -/
theorem memKeptOutside_setBytes (s : State) (first : Word) (f : Nat → Byte) (n : Nat) :
    MemKeptOutside s (setBytes s first f n) first n := by
  induction n with
  | zero => exact fun _ _ => rfl
  | succ n ih =>
    intro x hx
    have hne : x ≠ first + BitVec.ofNat 32 n := by bv_omega
    rw [setBytes_succ, byteAt_setByte_other _ _ hne, ih x (by omega)]

theorem wordAt_setWord (s : State) (a v : Word) : wordAt (setWord s a v) a = v := by
  apply eq_of_lanes_eq (n := 4) s.bigend
  intro k hk
  have hread := wordAt_lane (setWord s a v) a hk
  rw [setWord_bigend] at hread
  rw [hread, setWord_eq_setBytes, byteAt_setBytes _ _ _ hk (by omega)]

theorem halfAt_setHalf (s : State) (a : Word) (v : Half) : halfAt (setHalf s a v) a = v := by
  apply eq_of_lanes_eq (n := 2) s.bigend
  intro k hk
  have hread := halfAt_lane (setHalf s a v) a hk
  rw [setHalf_bigend] at hread
  rw [hread, setHalf_eq_setBytes, byteAt_setBytes _ _ _ hk (by omega)]

theorem memKeptOutside_setWord (s : State) (a v : Word) : MemKeptOutside s (setWord s a v) (wordBase a) 4 := by
  rw [setWord_eq_setBytes]
  exact memKeptOutside_setBytes s _ _ _

theorem memKeptOutside_setHalf (s : State) (a : Word) (v : Half) : MemKeptOutside s (setHalf s a v) a 2 := by
  rw [setHalf_eq_setBytes]
  exact memKeptOutside_setBytes s _ _ _

theorem memKeptOutside_setByte (s : State) (a : Word) (v : Byte) : MemKeptOutside s (setByte s a v) a 1 := by
  rw [setByte_eq_setBytes]
  exact memKeptOutside_setBytes s _ _ _

/-! ### The barrier -/

theorem fetchStale_eq_true {s : State} : fetchStale s = true ↔ s.pc.toNat ∈ s.stale := List.contains_iff_mem

/-- A stale word is not executed (R127). -/
theorem runInstruction_of_stale {s : State} (ha : fetchAborts s = false) (hs : fetchStale s = true) :
    runInstruction s = .fault .staleInstruction := by
  rw [runInstruction, ha, hs]
  rfl

/-- Outside reset a fault of the instruction is the fault of the step. -/
theorem step_of_fault {s : State} {r : Fault} (h0 : s.inReset = false) (h : runInstruction s = .fault r) :
    step s = .fault r := by
  rw [step, cycle, h0, h]
  rfl

/-- Where an IMB is owed nothing but an executed SWI runs (R129). -/
theorem execDecoded_of_owed {i : Instr} {s : State} (ho : s.pc ∈ s.imbOwed) (hi : isExecutedSwi i s = false) :
    execDecoded (.instr i) s = .fault .modeChangeWithoutImb := by
  have hc : (s.imbOwed.contains s.pc && !isExecutedSwi i s) = true := by simp [ho, hi]
  exact if_pos hc

/-- SWI, IMB and IMBRange are all the software interrupt (R428, R430, R431). -/
theorem exec_of_isExecutedSwi {i : Instr} {s : State} (h : isExecutedSwi i s = true) :
    exec i s = .next (softwareInterrupt s) := by
  cases i with
  | swi | imb | imbRange => exact whenPassed_pass h
  | _ => exact absurd h Bool.false_ne_true

@[simp] theorem expireImb_imbOwed (s t : State) : (expireImb s t).imbOwed = t.imbOwed := by
  unfold expireImb
  split <;> rfl

@[simp] theorem expireImb_stale (s t : State) : (expireImb s t).stale = t.stale := by
  unfold expireImb
  split <;> rfl

theorem execDecoded_of_isExecutedSwi {i : Instr} {s : State} (h : isExecutedSwi i s = true) :
    execDecoded (.instr i) s = .next (expireImb s (softwareInterrupt s)) :=
  execDecoded_instr_eq_next.mpr ⟨fun _ => h, _, exec_of_isExecutedSwi h, rfl⟩

/-! ### The obligations -/

/-- Settles O51: a word and a halfword byte by byte, a write as the writes of its bytes. -/
theorem byteOrder : Obligations.ByteOrder := by
  intro s a
  refine ⟨?_, ?_, wordBase_toNat a, ?_, ?_, ?_⟩
  · exact fun k hk => wordAt_lane s a hk
  · exact fun k hk => halfAt_lane s a hk
  · exact fun v => ⟨wordAt_setWord s a v, memKeptOutside_setWord s a v⟩
  · exact fun v => ⟨halfAt_setHalf s a v, memKeptOutside_setHalf s a v⟩
  · exact fun v => ⟨byteAt_setByte_same s a v, memKeptOutside_setByte s a v⟩

/-- Settles O52. -/
theorem barrierNeeded : Obligations.BarrierNeeded := by
  constructor
  · intro s h0 ha hs
    exact step_of_fault h0 (runInstruction_of_stale ha (fetchStale_eq_true.mpr hs))
  · intro s i
    refine ⟨execDecoded_of_owed, fun h => ⟨_, execDecoded_of_isExecutedSwi h, ?_, ?_⟩⟩
    · exact expireImb_imbOwed ..
    · exact expireImb_stale ..

end Sys2Proof.Machine
end

section
/-! SUPPORT. A word as a row of fields: the word put together from a row is the one word that has the row's fields
(spec/30_encoding.md R161, R162). -/

namespace Sys2Proof

/-- A field of a word: its width and its value. -/
abbrev WordField := Σ n, BitVec n

/-- A field of one bit. -/
def bitField (b : Bool) : WordField := ⟨1, BitVec.ofBool b⟩

/-- The number of bits of a row of fields. -/
def rowWidth : List WordField → Nat
  | [] => 0
  | f :: fs => f.1 + rowWidth fs

/-- The word with these fields, from the top down, the last of them ending at bit 0. -/
def rowWord : List WordField → Word
  | [] => 0
  | f :: fs => place f.2 (rowWidth fs) ||| rowWord fs

/-- The word's lowest bits are these fields. -/
def HasFields (w : Word) : List WordField → Prop
  | [] => True
  | f :: fs => field w (rowWidth fs) f.1 = f.2 ∧ HasFields w fs

theorem getLsbD_field (w : Word) (lo n k : Nat) : (field w lo n).getLsbD k = (decide (k < n) && bit w (lo + k)) := by
  simp [field, bit]

theorem field_eq_iff {w : Word} {lo n : Nat} {v : BitVec n} :
    field w lo n = v ↔ ∀ k < n, bit w (lo + k) = v.getLsbD k := by
  constructor
  · rintro rfl k hk
    rw [getLsbD_field]
    simp [hk]
  · intro h
    apply BitVec.eq_of_getLsbD_eq
    intro k hk
    rw [getLsbD_field, h k hk]
    simp [hk]

theorem bit_rowWord_of_rowWidth_le {fs : List WordField} {k : Nat} (h : rowWidth fs ≤ k) :
    bit (rowWord fs) k = false := by
  induction fs with
  | nil => simp [rowWord, bit]
  | cons f fs ih =>
    have hwidth : f.1 + rowWidth fs ≤ k := h
    rw [rowWord, bit_or, bit_place, ih (by omega), BitVec.getLsbD_of_ge _ _ (by omega)]
    simp

theorem hasFields_iff {w : Word} {fs : List WordField} (h : rowWidth fs ≤ 32) :
    HasFields w fs ↔ ∀ k < rowWidth fs, bit (rowWord fs) k = bit w k := by
  induction fs with
  | nil => simp [HasFields, rowWidth]
  | cons f fs ih =>
    have hwidth : f.1 + rowWidth fs ≤ 32 := h
    have hlow : ∀ k < rowWidth fs, bit (rowWord (f :: fs)) k = bit (rowWord fs) k := by
      intro k hk
      rw [rowWord, bit_or, bit_place, show decide (rowWidth fs ≤ k) = false by simpa using hk]
      simp
    have hhigh : ∀ k < f.1, bit (rowWord (f :: fs)) (rowWidth fs + k) = f.2.getLsbD k := by
      intro k hk
      rw [rowWord, bit_or, bit_place, bit_rowWord_of_rowWidth_le (Nat.le_add_right _ _)]
      simp [show rowWidth fs + k < 32 by omega]
    rw [HasFields, ih (by omega), field_eq_iff]
    constructor
    · rintro ⟨hf, hfs⟩ k hk
      have hk' : k < f.1 + rowWidth fs := hk
      rcases Nat.lt_or_ge k (rowWidth fs) with hks | hks
      · rw [hlow k hks, hfs k hks]
      · obtain ⟨j, rfl⟩ := Nat.exists_eq_add_of_le hks
        rw [hhigh j (by omega), hf j (by omega)]
    · intro hall
      refine ⟨fun k hk => ?_, fun k hk => ?_⟩
      · rw [← hhigh k hk, hall _ (show _ < f.1 + rowWidth fs by omega)]
      · rw [← hlow k hk, hall _ (show _ < f.1 + rowWidth fs by omega)]

/-- The word of a row of fields that fills it is the word that has them. -/
theorem rowWord_eq_iff {w : Word} {fs : List WordField} (h : rowWidth fs = 32) : rowWord fs = w ↔ HasFields w fs := by
  rw [hasFields_iff h.le, h]
  constructor
  · rintro rfl _ _
    rfl
  · exact BitVec.eq_of_getLsbD_eq

/-! ### Reading a row -/

theorem field_one_eq_ofBool {w : Word} {k : Nat} {b : Bool} : field w k 1 = BitVec.ofBool b ↔ bit w k = b := by
  rw [field_eq_iff]
  simp

@[simp] theorem place_zero (n lo : Nat) : place (0#n) lo = 0#32 := by simp [place]

@[simp] theorem rowWidth_nil : rowWidth [] = 0 := rfl

@[simp] theorem rowWidth_cons (n : Nat) (v : BitVec n) (fs : List WordField) :
    rowWidth (⟨n, v⟩ :: fs) = n + rowWidth fs := rfl

@[simp] theorem rowWidth_bitField (b : Bool) (fs : List WordField) :
    rowWidth (bitField b :: fs) = 1 + rowWidth fs := rfl

@[simp] theorem rowWord_nil : rowWord [] = 0#32 := rfl

@[simp] theorem rowWord_cons (n : Nat) (v : BitVec n) (fs : List WordField) :
    rowWord (⟨n, v⟩ :: fs) = place v (rowWidth fs) ||| rowWord fs := rfl

@[simp] theorem rowWord_bitField (b : Bool) (fs : List WordField) :
    rowWord (bitField b :: fs) = place (BitVec.ofBool b) (rowWidth fs) ||| rowWord fs := rfl

@[simp] theorem hasFields_nil (w : Word) : HasFields w [] ↔ True := Iff.rfl

@[simp] theorem hasFields_cons (w : Word) (n : Nat) (v : BitVec n) (fs : List WordField) :
    HasFields w (⟨n, v⟩ :: fs) ↔ field w (rowWidth fs) n = v ∧ HasFields w fs := Iff.rfl

@[simp] theorem hasFields_bitField (w : Word) (b : Bool) (fs : List WordField) :
    HasFields w (bitField b :: fs) ↔ bit w (rowWidth fs) = b ∧ HasFields w fs :=
  and_congr_left' field_one_eq_ofBool

/-- How an encoder is read: its word is `w` exactly when `w` has the fields of its row. -/
theorem eq_iff_of_row {a w : Word} {fs : List WordField} (hrow : a = rowWord fs) (hwidth : rowWidth fs = 32) :
    a = w ↔ HasFields w fs := by
  rw [hrow, rowWord_eq_iff hwidth]

theorem field_three_eq_iff {w : Word} {lo : Nat} {v : BitVec 3} :
    field w lo 3 = v ↔ bit w (lo + 2) = v.getLsbD 2 ∧ bit w (lo + 1) = v.getLsbD 1 ∧ bit w lo = v.getLsbD 0 := by
  rw [field_eq_iff]
  simp only [Nat.forall_lt_succ_right, Nat.not_lt_zero, false_imp_iff, forall_const, true_and, Nat.add_zero]
  tauto

end Sys2Proof
end

section
/-! SUPPORT. The layouts of R166 to R180: a word is an encoder's exactly when its fields are those of the layout. -/

namespace Sys2Proof

theorem ShiftType.code_ofCode : ∀ v : BitVec 2, (ShiftType.ofCode v).code = v := by decide

theorem shiftField_eq_iff {w : Word} {ty : ShiftType} : shiftField w = ty ↔ field w 5 2 = ty.code := by
  constructor
  · rintro rfl
    exact (ShiftType.code_ofCode _).symm
  · intro h
    rw [shiftField, h, shiftType_ofCode_code]

theorem fieldMask_eq_iff {w : Word} {m : FieldMask} :
    fieldMask w = m ↔ bit w 19 = m.flags ∧ bit w 18 = m.status ∧ bit w 17 = m.extension ∧ bit w 16 = m.control := by
  cases m
  simp [fieldMask]

/-! The constant fields of the layouts as single bits. -/

theorem place_psr : place (0b00010#5) 23 = place (BitVec.ofBool true) 24 := rfl

theorem place_psrImm : place (0b00110#5) 23 = place (0b001#3) 25 ||| place (BitVec.ofBool true) 24 := rfl

theorem place_msr : place (0b10#2) 20 = place (BitVec.ofBool true) 21 := rfl

theorem place_long : place (0b00001#5) 23 = place (BitVec.ofBool true) 23 := rfl

theorem place_multiply :
    place (0b1001#4) 4 = place (BitVec.ofBool true) 7 ||| place (BitVec.ofBool true) 4 := rfl

theorem place_swi : place (0b1111#4) 24 = place (0b111#3) 25 ||| place (BitVec.ofBool true) 24 := rfl

theorem place_cdp : place (0b1110#4) 24 = place (0b111#3) 25 := rfl

theorem encodeBranch_eq_iff {c link offset w} : encodeBranch c link offset = w ↔
    field w 28 4 = c.code ∧ field w 25 3 = 0b101 ∧ bit w 24 = link ∧ field w 0 24 = offset := by
  rw [eq_iff_of_row (fs := [⟨4, c.code⟩, ⟨3, 0b101⟩, bitField link, ⟨24, offset⟩])
    (by simp [encodeBranch, encodeCond, BitVec.or_assoc]) (by simp)]
  simp

theorem encodeDpImm_eq_iff {c op sb rn rd rotate imm w} : encodeDpImm c op sb rn rd rotate imm = w ↔
    field w 28 4 = c.code ∧ field w 25 3 = 0b001 ∧ field w 21 4 = op ∧ bit w 20 = sb ∧ field w 16 4 = rn
      ∧ field w 12 4 = rd ∧ field w 8 4 = rotate ∧ field w 0 8 = imm := by
  rw [eq_iff_of_row (fs := [⟨4, c.code⟩, ⟨3, 0b001⟩, ⟨4, op⟩, bitField sb, ⟨4, rn⟩, ⟨4, rd⟩, ⟨4, rotate⟩, ⟨8, imm⟩])
    (by simp [encodeDpImm, encodeCond, BitVec.or_assoc]) (by simp)]
  simp

theorem encodeDpShiftImm_eq_iff {c op sb rn rd amount ty rm w} : encodeDpShiftImm c op sb rn rd amount ty rm = w ↔
    field w 28 4 = c.code ∧ field w 25 3 = 0b000 ∧ field w 21 4 = op ∧ bit w 20 = sb ∧ field w 16 4 = rn
      ∧ field w 12 4 = rd ∧ field w 7 5 = amount ∧ shiftField w = ty ∧ bit w 4 = false ∧ field w 0 4 = rm := by
  rw [eq_iff_of_row (fs := [⟨4, c.code⟩, ⟨3, 0b000⟩, ⟨4, op⟩, bitField sb, ⟨4, rn⟩, ⟨4, rd⟩, ⟨5, amount⟩,
      ⟨2, ty.code⟩, bitField false, ⟨4, rm⟩])
    (by simp [encodeDpShiftImm, encodeCond, BitVec.or_assoc]) (by simp)]
  simp [shiftField_eq_iff]

theorem encodeDpShiftReg_eq_iff {c op sb rn rd rs ty rm w} : encodeDpShiftReg c op sb rn rd rs ty rm = w ↔
    field w 28 4 = c.code ∧ field w 25 3 = 0b000 ∧ field w 21 4 = op ∧ bit w 20 = sb ∧ field w 16 4 = rn
      ∧ field w 12 4 = rd ∧ field w 8 4 = rs ∧ bit w 7 = false ∧ shiftField w = ty ∧ bit w 4 = true
      ∧ field w 0 4 = rm := by
  rw [eq_iff_of_row (fs := [⟨4, c.code⟩, ⟨3, 0b000⟩, ⟨4, op⟩, bitField sb, ⟨4, rn⟩, ⟨4, rd⟩, ⟨4, rs⟩,
      bitField false, ⟨2, ty.code⟩, bitField true, ⟨4, rm⟩])
    (by simp [encodeDpShiftReg, encodeCond, BitVec.or_assoc]) (by simp)]
  simp [shiftField_eq_iff]

theorem encodeMrs_eq_iff {c saved rd w} : encodeMrs c saved rd = w ↔
    field w 28 4 = c.code ∧ field w 25 3 = 0b000 ∧ bit w 24 = true ∧ bit w 23 = false ∧ bit w 22 = saved
      ∧ bit w 21 = false ∧ bit w 20 = false ∧ field w 16 4 = 0xF ∧ field w 12 4 = rd ∧ field w 8 4 = 0
      ∧ bit w 7 = false ∧ bit w 6 = false ∧ bit w 5 = false ∧ bit w 4 = false ∧ field w 0 4 = 0 := by
  rw [eq_iff_of_row (fs := [⟨4, c.code⟩, ⟨3, 0b000⟩, bitField true, bitField false, bitField saved, bitField false,
      bitField false, ⟨4, 0xF⟩, ⟨4, rd⟩, ⟨4, 0⟩, bitField false, bitField false, bitField false, bitField false,
      ⟨4, 0⟩])
    (by simp [encodeMrs, place_psr, encodeCond, BitVec.or_assoc]) (by simp)]
  simp

theorem encodeMsrReg_eq_iff {c saved mask rm w} : encodeMsrReg c saved mask rm = w ↔
    field w 28 4 = c.code ∧ field w 25 3 = 0b000 ∧ bit w 24 = true ∧ bit w 23 = false ∧ bit w 22 = saved
      ∧ bit w 21 = true ∧ bit w 20 = false ∧ fieldMask w = mask ∧ field w 12 4 = 0xF ∧ field w 8 4 = 0
      ∧ bit w 7 = false ∧ bit w 6 = false ∧ bit w 5 = false ∧ bit w 4 = false ∧ field w 0 4 = rm := by
  rw [eq_iff_of_row (fs := [⟨4, c.code⟩, ⟨3, 0b000⟩, bitField true, bitField false, bitField saved, bitField true,
      bitField false, bitField mask.flags, bitField mask.status, bitField mask.extension, bitField mask.control,
      ⟨4, 0xF⟩, ⟨4, 0⟩, bitField false, bitField false, bitField false, bitField false, ⟨4, rm⟩])
    (by simp [encodeMsrReg, place_psr, place_msr, encodeMask, encodeCond, BitVec.or_assoc]) (by simp)]
  simp [fieldMask_eq_iff, and_assoc]

theorem encodeMsrImm_eq_iff {c saved mask rotate imm w} : encodeMsrImm c saved mask rotate imm = w ↔
    field w 28 4 = c.code ∧ field w 25 3 = 0b001 ∧ bit w 24 = true ∧ bit w 23 = false ∧ bit w 22 = saved
      ∧ bit w 21 = true ∧ bit w 20 = false ∧ fieldMask w = mask ∧ field w 12 4 = 0xF ∧ field w 8 4 = rotate
      ∧ field w 0 8 = imm := by
  rw [eq_iff_of_row (fs := [⟨4, c.code⟩, ⟨3, 0b001⟩, bitField true, bitField false, bitField saved, bitField true,
      bitField false, bitField mask.flags, bitField mask.status, bitField mask.extension, bitField mask.control,
      ⟨4, 0xF⟩, ⟨4, rotate⟩, ⟨8, imm⟩])
    (by simp [encodeMsrImm, place_psrImm, place_msr, encodeMask, encodeCond, BitVec.or_assoc]) (by simp)]
  simp [fieldMask_eq_iff, and_assoc]

theorem encodeMultiply_eq_iff {c acc sb rd rn rs rm w} : encodeMultiply c acc sb rd rn rs rm = w ↔
    field w 28 4 = c.code ∧ field w 25 3 = 0b000 ∧ bit w 24 = false ∧ bit w 23 = false ∧ bit w 22 = false
      ∧ bit w 21 = acc ∧ bit w 20 = sb ∧ field w 16 4 = rd ∧ field w 12 4 = rn ∧ field w 8 4 = rs ∧ bit w 7 = true
      ∧ bit w 6 = false ∧ bit w 5 = false ∧ bit w 4 = true ∧ field w 0 4 = rm := by
  rw [eq_iff_of_row (fs := [⟨4, c.code⟩, ⟨3, 0b000⟩, bitField false, bitField false, bitField false, bitField acc,
      bitField sb, ⟨4, rd⟩, ⟨4, rn⟩, ⟨4, rs⟩, bitField true, bitField false, bitField false, bitField true, ⟨4, rm⟩])
    (by simp [encodeMultiply, place_multiply, encodeCond, BitVec.or_assoc]) (by simp)]
  simp

theorem encodeMultiplyLong_eq_iff {c signed acc sb rdHi rdLo rs rm w} :
    encodeMultiplyLong c signed acc sb rdHi rdLo rs rm = w ↔
    field w 28 4 = c.code ∧ field w 25 3 = 0b000 ∧ bit w 24 = false ∧ bit w 23 = true ∧ bit w 22 = signed
      ∧ bit w 21 = acc ∧ bit w 20 = sb ∧ field w 16 4 = rdHi ∧ field w 12 4 = rdLo ∧ field w 8 4 = rs
      ∧ bit w 7 = true ∧ bit w 6 = false ∧ bit w 5 = false ∧ bit w 4 = true ∧ field w 0 4 = rm := by
  rw [eq_iff_of_row (fs := [⟨4, c.code⟩, ⟨3, 0b000⟩, bitField false, bitField true, bitField signed, bitField acc,
      bitField sb, ⟨4, rdHi⟩, ⟨4, rdLo⟩, ⟨4, rs⟩, bitField true, bitField false, bitField false, bitField true,
      ⟨4, rm⟩])
    (by simp [encodeMultiplyLong, place_multiply, place_long, encodeCond, BitVec.or_assoc]) (by simp)]
  simp

theorem encodeSingleImm_eq_iff {c pre up byte wb load rn rd offset w} :
    encodeSingleImm c pre up byte wb load rn rd offset = w ↔
    field w 28 4 = c.code ∧ field w 25 3 = 0b010 ∧ bit w 24 = pre ∧ bit w 23 = up ∧ bit w 22 = byte ∧ bit w 21 = wb
      ∧ bit w 20 = load ∧ field w 16 4 = rn ∧ field w 12 4 = rd ∧ field w 0 12 = offset := by
  rw [eq_iff_of_row (fs := [⟨4, c.code⟩, ⟨3, 0b010⟩, bitField pre, bitField up, bitField byte, bitField wb,
      bitField load, ⟨4, rn⟩, ⟨4, rd⟩, ⟨12, offset⟩])
    (by simp [encodeSingleImm, encodeSingle, encodeCond, BitVec.or_assoc]) (by simp)]
  simp

theorem encodeSingleReg_eq_iff {c pre up byte wb load rn rd amount ty rm w} :
    encodeSingleReg c pre up byte wb load rn rd amount ty rm = w ↔
    field w 28 4 = c.code ∧ field w 25 3 = 0b011 ∧ bit w 24 = pre ∧ bit w 23 = up ∧ bit w 22 = byte ∧ bit w 21 = wb
      ∧ bit w 20 = load ∧ field w 16 4 = rn ∧ field w 12 4 = rd ∧ field w 7 5 = amount ∧ shiftField w = ty
      ∧ bit w 4 = false ∧ field w 0 4 = rm := by
  rw [eq_iff_of_row (fs := [⟨4, c.code⟩, ⟨3, 0b011⟩, bitField pre, bitField up, bitField byte, bitField wb,
      bitField load, ⟨4, rn⟩, ⟨4, rd⟩, ⟨5, amount⟩, ⟨2, ty.code⟩, bitField false, ⟨4, rm⟩])
    (by simp [encodeSingleReg, encodeSingle, encodeCond, BitVec.or_assoc]) (by simp)]
  simp [shiftField_eq_iff]

theorem word_or_left_comm (b a c : Word) : a ||| (b ||| c) = b ||| (a ||| c) := by
  rw [← BitVec.or_assoc, BitVec.or_comm a, BitVec.or_assoc]

theorem encodeHalfImm_eq_iff {c pre up wb load signed half rn rd offset w} :
    encodeHalfImm c pre up wb load signed half rn rd offset = w ↔
    field w 28 4 = c.code ∧ field w 25 3 = 0b000 ∧ bit w 24 = pre ∧ bit w 23 = up ∧ bit w 22 = true ∧ bit w 21 = wb
      ∧ bit w 20 = load ∧ field w 16 4 = rn ∧ field w 12 4 = rd ∧ field w 8 4 = offset.extractLsb' 4 4
      ∧ bit w 7 = true ∧ bit w 6 = signed ∧ bit w 5 = half ∧ bit w 4 = true ∧ field w 0 4 = offset.extractLsb' 0 4 := by
  rw [eq_iff_of_row (fs := [⟨4, c.code⟩, ⟨3, 0b000⟩, bitField pre, bitField up, bitField true, bitField wb,
      bitField load, ⟨4, rn⟩, ⟨4, rd⟩, ⟨4, offset.extractLsb' 4 4⟩, bitField true, bitField signed, bitField half,
      bitField true, ⟨4, offset.extractLsb' 0 4⟩])
    (by simp [encodeHalfImm, encodeHalf, encodeCond, BitVec.or_assoc,
      word_or_left_comm (place (offset.extractLsb' 4 4) 8)]) (by simp)]
  simp

theorem encodeHalfReg_eq_iff {c pre up wb load signed half rn rd rm w} :
    encodeHalfReg c pre up wb load signed half rn rd rm = w ↔
    field w 28 4 = c.code ∧ field w 25 3 = 0b000 ∧ bit w 24 = pre ∧ bit w 23 = up ∧ bit w 22 = false ∧ bit w 21 = wb
      ∧ bit w 20 = load ∧ field w 16 4 = rn ∧ field w 12 4 = rd ∧ field w 8 4 = 0 ∧ bit w 7 = true
      ∧ bit w 6 = signed ∧ bit w 5 = half ∧ bit w 4 = true ∧ field w 0 4 = rm := by
  rw [eq_iff_of_row (fs := [⟨4, c.code⟩, ⟨3, 0b000⟩, bitField pre, bitField up, bitField false, bitField wb,
      bitField load, ⟨4, rn⟩, ⟨4, rd⟩, ⟨4, 0⟩, bitField true, bitField signed, bitField half, bitField true, ⟨4, rm⟩])
    (by simp [encodeHalfReg, encodeHalf, encodeCond, BitVec.or_assoc]) (by simp)]
  simp

theorem encodeBlock_eq_iff {c pre up sBit wb load rn list w} : encodeBlock c pre up sBit wb load rn list = w ↔
    field w 28 4 = c.code ∧ field w 25 3 = 0b100 ∧ bit w 24 = pre ∧ bit w 23 = up ∧ bit w 22 = sBit ∧ bit w 21 = wb
      ∧ bit w 20 = load ∧ field w 16 4 = rn ∧ field w 0 16 = list := by
  rw [eq_iff_of_row (fs := [⟨4, c.code⟩, ⟨3, 0b100⟩, bitField pre, bitField up, bitField sBit, bitField wb,
      bitField load, ⟨4, rn⟩, ⟨16, list⟩])
    (by simp [encodeBlock, encodeCond, BitVec.or_assoc]) (by simp)]
  simp

theorem encodeBlockSplit_eq_iff {c pre up wb rn pc list w} : encodeBlockSplit c pre up wb rn pc list = w ↔
    field w 28 4 = c.code ∧ field w 25 3 = 0b100 ∧ bit w 24 = pre ∧ bit w 23 = up ∧ bit w 22 = true ∧ bit w 21 = wb
      ∧ bit w 20 = true ∧ field w 16 4 = rn ∧ bit w 15 = pc ∧ field w 0 15 = list := by
  rw [eq_iff_of_row (fs := [⟨4, c.code⟩, ⟨3, 0b100⟩, bitField pre, bitField up, bitField true, bitField wb,
      bitField true, ⟨4, rn⟩, bitField pc, ⟨15, list⟩])
    (by simp [encodeBlockSplit, encodeCond, BitVec.or_assoc]) (by simp)]
  simp

theorem encodeSwap_eq_iff {c byte rn rd rm w} : encodeSwap c byte rn rd rm = w ↔
    field w 28 4 = c.code ∧ field w 25 3 = 0b000 ∧ bit w 24 = true ∧ bit w 23 = false ∧ bit w 22 = byte
      ∧ bit w 21 = false ∧ bit w 20 = false ∧ field w 16 4 = rn ∧ field w 12 4 = rd ∧ field w 8 4 = 0
      ∧ bit w 7 = true ∧ bit w 6 = false ∧ bit w 5 = false ∧ bit w 4 = true ∧ field w 0 4 = rm := by
  rw [eq_iff_of_row (fs := [⟨4, c.code⟩, ⟨3, 0b000⟩, bitField true, bitField false, bitField byte, bitField false,
      bitField false, ⟨4, rn⟩, ⟨4, rd⟩, ⟨4, 0⟩, bitField true, bitField false, bitField false, bitField true,
      ⟨4, rm⟩])
    (by simp [encodeSwap, place_psr, place_multiply, encodeCond, BitVec.or_assoc]) (by simp)]
  simp

theorem encodeSwi_eq_iff {c comment w} : encodeSwi c comment = w ↔
    field w 28 4 = c.code ∧ field w 25 3 = 0b111 ∧ bit w 24 = true ∧ field w 0 24 = comment := by
  rw [eq_iff_of_row (fs := [⟨4, c.code⟩, ⟨3, 0b111⟩, bitField true, ⟨24, comment⟩])
    (by simp [encodeSwi, place_swi, encodeCond, BitVec.or_assoc]) (by simp)]
  simp

theorem encodeCdp_eq_iff {c opc crn crd cp info crm w} : encodeCdp c opc crn crd cp info crm = w ↔
    field w 28 4 = c.code ∧ field w 25 3 = 0b111 ∧ bit w 24 = false ∧ field w 20 4 = opc ∧ field w 16 4 = crn
      ∧ field w 12 4 = crd ∧ field w 8 4 = cp ∧ field w 5 3 = info ∧ bit w 4 = false ∧ field w 0 4 = crm := by
  rw [eq_iff_of_row (fs := [⟨4, c.code⟩, ⟨3, 0b111⟩, bitField false, ⟨4, opc⟩, ⟨4, crn⟩, ⟨4, crd⟩, ⟨4, cp⟩,
      ⟨3, info⟩, bitField false, ⟨4, crm⟩])
    (by simp [encodeCdp, place_cdp, encodeCond, BitVec.or_assoc]) (by simp)]
  simp

theorem encodeCoprocTransfer_eq_iff {c load pre up long wb rn crd cp offset w} :
    encodeCoprocTransfer c load pre up long wb rn crd cp offset = w ↔
    field w 28 4 = c.code ∧ field w 25 3 = 0b110 ∧ bit w 24 = pre ∧ bit w 23 = up ∧ bit w 22 = long ∧ bit w 21 = wb
      ∧ bit w 20 = load ∧ field w 16 4 = rn ∧ field w 12 4 = crd ∧ field w 8 4 = cp ∧ field w 0 8 = offset := by
  rw [eq_iff_of_row (fs := [⟨4, c.code⟩, ⟨3, 0b110⟩, bitField pre, bitField up, bitField long, bitField wb,
      bitField load, ⟨4, rn⟩, ⟨4, crd⟩, ⟨4, cp⟩, ⟨8, offset⟩])
    (by simp [encodeCoprocTransfer, encodeCond, BitVec.or_assoc]) (by simp)]
  simp

theorem encodeCoprocRegister_eq_iff {c load opc crn rd cp info crm w} :
    encodeCoprocRegister c load opc crn rd cp info crm = w ↔
    field w 28 4 = c.code ∧ field w 25 3 = 0b111 ∧ bit w 24 = false ∧ field w 21 3 = opc ∧ bit w 20 = load
      ∧ field w 16 4 = crn ∧ field w 12 4 = rd ∧ field w 8 4 = cp ∧ field w 5 3 = info ∧ bit w 4 = true
      ∧ field w 0 4 = crm := by
  rw [eq_iff_of_row (fs := [⟨4, c.code⟩, ⟨3, 0b111⟩, bitField false, ⟨3, opc⟩, bitField load, ⟨4, crn⟩, ⟨4, rd⟩,
      ⟨4, cp⟩, ⟨3, info⟩, bitField true, ⟨4, crm⟩])
    (by simp [encodeCoprocRegister, place_cdp, encodeCond, BitVec.or_assoc]) (by simp)]
  simp

theorem encodeUndefined_eq_iff {c bits w} : encodeUndefined c bits = w ↔
    field w 28 4 = c.code ∧ field w 0 28 = bits := by
  rw [eq_iff_of_row (fs := [⟨4, c.code⟩, ⟨28, bits⟩])
    (by simp [encodeUndefined, encodeCond]) (by simp)]
  simp

end Sys2Proof
end

section
/-! SUPPORT. The decoder, form by form: which part of it reads a word, and which instruction of the statements'
vocabulary the fields of a form are (R164, R167, R171, R172). -/

namespace Sys2Proof

open Sys2Proof.Claims Sys2Proof.Machine

variable {c : Cond} {w : Word}

/-! ### The choice of a form -/

theorem code_of_ofCode {v : BitVec 4} (h : Cond.ofCode v = some c) : v = c.code := by
  revert v
  cases c <;> decide

theorem decode_of_code (hc : field w 28 4 = c.code) : decode w = decodeClass c w := by
  rw [decode, hc, ofCode_code]

/-- The part of the decoder for bits 27:25 (R164). -/
def classDecoder (v : BitVec 3) (c : Cond) (w : Word) : Decoded :=
  match v.getLsbD 2, v.getLsbD 1, v.getLsbD 0 with
  | false, false, false => decodeRegister c w
  | false, false, true => decodeImmediate c w
  | false, true, false => .instr (decodeSingleImm c w)
  | false, true, true => if bit w 4 then .instr (.undefinedA c (field w 0 28)) else .instr (decodeSingleReg c w)
  | true, false, false => .instr (decodeBlock c w)
  | true, false, true => if bit w 24 then .instr (.bl c (field w 0 24)) else .instr (.b c (field w 0 24))
  | true, true, false => .instr (decodeCoprocTransfer c w)
  | true, true, true => .instr (decodeSwiCoproc c w)

theorem decodeClass_of_class {v : BitVec 3} (hk : field w 25 3 = v) : decodeClass c w = classDecoder v c w := by
  obtain ⟨h27, h26, h25⟩ := field_three_eq_iff.mp hk
  unfold decodeClass classDecoder
  rewrite [h27, h26, h25]
  rfl

theorem decodeClass_register (hk : field w 25 3 = 0b000) : decodeClass c w = decodeRegister c w :=
  decodeClass_of_class hk

theorem decodeClass_immediate (hk : field w 25 3 = 0b001) : decodeClass c w = decodeImmediate c w :=
  decodeClass_of_class hk

theorem decodeClass_singleImm (hk : field w 25 3 = 0b010) : decodeClass c w = .instr (decodeSingleImm c w) :=
  decodeClass_of_class hk

theorem decodeClass_singleReg (hk : field w 25 3 = 0b011) :
    decodeClass c w = if bit w 4 then .instr (.undefinedA c (field w 0 28)) else .instr (decodeSingleReg c w) :=
  decodeClass_of_class hk

theorem decodeClass_block (hk : field w 25 3 = 0b100) : decodeClass c w = .instr (decodeBlock c w) :=
  decodeClass_of_class hk

theorem decodeClass_branch (hk : field w 25 3 = 0b101) :
    decodeClass c w = if bit w 24 then .instr (.bl c (field w 0 24)) else .instr (.b c (field w 0 24)) :=
  decodeClass_of_class hk

theorem decodeClass_coprocTransfer (hk : field w 25 3 = 0b110) :
    decodeClass c w = .instr (decodeCoprocTransfer c w) :=
  decodeClass_of_class hk

theorem decodeClass_swiCoproc (hk : field w 25 3 = 0b111) : decodeClass c w = .instr (decodeSwiCoproc c w) :=
  decodeClass_of_class hk

theorem class_cases : ∀ v : BitVec 3, v = 0b000 ∨ v = 0b001 ∨ v = 0b010 ∨ v = 0b011 ∨ v = 0b100 ∨ v = 0b101 ∨ v = 0b110
    ∨ v = 0b111 := by decide

theorem testWithoutS_iff : testWithoutS w = true ↔ bit w 24 = true ∧ bit w 23 = false ∧ bit w 20 = false := by
  simp [testWithoutS, and_assoc]

/-! The words with bits 27:25 = 000 by bits 4 and 7, which are tested first. -/

theorem decodeRegister_of_immediateShift (h4 : bit w 4 = false) :
    decodeRegister c w = if testWithoutS w then
        if bit w 7 then .instr (.undefinedB1 c (field w 0 28))
        else if bit w 6 then .instr (.undefinedB2 c (field w 0 28))
        else if bit w 5 then .instr (.undefinedB3 c (field w 0 28))
        else decodePsrReg c w
      else .instr (decodeDpShiftImm c w) := by
  delta decodeRegister
  rw [h4]

theorem decodeRegister_of_registerShift (h7 : bit w 7 = false) (h4 : bit w 4 = true) :
    decodeRegister c w = if testWithoutS w then .instr (.undefinedB4 c (field w 0 28))
      else .instr (decodeDpShiftReg c w) := by
  delta decodeRegister
  rw [h4, h7]

theorem decodeRegister_of_extension (h7 : bit w 7 = true) (h4 : bit w 4 = true) :
    decodeRegister c w = if bit w 6 || bit w 5 then decodeHalfword c w else decodeMultiplySwap c w := by
  delta decodeRegister
  rw [h4, h7]

theorem decodeRegister_psr (ht : testWithoutS w = true) (h7 : bit w 7 = false) (h6 : bit w 6 = false)
    (h5 : bit w 5 = false) (h4 : bit w 4 = false) : decodeRegister c w = decodePsrReg c w := by
  rw [decodeRegister_of_immediateShift h4, ht, h7, h6, h5]
  rfl

theorem decodeRegister_multiplySwap (h7 : bit w 7 = true) (h6 : bit w 6 = false) (h5 : bit w 5 = false)
    (h4 : bit w 4 = true) : decodeRegister c w = decodeMultiplySwap c w := by
  rw [decodeRegister_of_extension h7 h4, h6, h5]
  rfl

theorem decodeRegister_halfword (h7 : bit w 7 = true) (h65 : (bit w 6 || bit w 5) = true) (h4 : bit w 4 = true) :
    decodeRegister c w = decodeHalfword c w := by
  rw [decodeRegister_of_extension h7 h4, if_pos h65]

theorem decodeImmediate_dp (ht : testWithoutS w = false) : decodeImmediate c w = .instr (decodeDpImm c w) :=
  if_neg (ne_true_of_eq_false ht)

theorem decodeImmediate_msr (ht : testWithoutS w = true) (h21 : bit w 21 = true) :
    decodeImmediate c w = decodeMsrImm c w :=
  (if_pos ht).trans (if_pos h21)

/-! ### Data processing -/

/-- The operation of the bits 24 to 21 (R167). -/
def aluOfBits (b24 b23 b22 b21 : Bool) : AluOp :=
  match b24, b23, b22, b21 with
  | false, false, false, false => .and
  | false, false, false, true => .eor
  | false, false, true, false => .sub
  | false, false, true, true => .rsb
  | false, true, false, false => .add
  | false, true, false, true => .adc
  | false, true, true, false => .sbc
  | false, true, true, true => .rsc
  | true, false, false, false => .tst
  | true, false, false, true => .teq
  | true, false, true, false => .cmp
  | true, false, true, true => .cmn
  | true, true, false, false => .orr
  | true, true, false, true => .mov
  | true, true, true, false => .bic
  | true, true, true, true => .mvn

/-- The operation of an opcode (R167). -/
def aluOfCode (v : BitVec 4) : AluOp := aluOfBits (v.getLsbD 3) (v.getLsbD 2) (v.getLsbD 1) (v.getLsbD 0)

theorem aluOfCode_opcode (w : Word) :
    aluOfCode (field w 21 4) = aluOfBits (bit w 24) (bit w 23) (bit w 22) (bit w 21) := by
  delta aluOfCode
  rw [getLsbD_field, getLsbD_field, getLsbD_field, getLsbD_field]
  rfl

/-- The opcode of an operation (R167). -/
def aluCode : AluOp → BitVec 4
  | .and => 0 | .eor => 1 | .sub => 2 | .rsb => 3 | .add => 4 | .adc => 5 | .sbc => 6 | .rsc => 7
  | .tst => 8 | .teq => 9 | .cmp => 10 | .cmn => 11 | .orr => 12 | .mov => 13 | .bic => 14 | .mvn => 15

theorem aluCode_aluOfCode : ∀ v : BitVec 4, aluCode (aluOfCode v) = v := by decide

theorem decodeDpImm_eq : decodeDpImm c w = dp (aluOfCode (field w 21 4)) c (bit w 20) (field w 16 4) (field w 12 4)
    (.imm (field w 8 4) (field w 0 8)) := by
  rw [aluOfCode_opcode]
  unfold decodeDpImm
  cases bit w 24 <;> cases bit w 23 <;> cases bit w 22 <;> cases bit w 21 <;> rfl

theorem decodeDpShiftImm_eq : decodeDpShiftImm c w = dp (aluOfCode (field w 21 4)) c (bit w 20) (field w 16 4)
    (field w 12 4) (.shiftImm (field w 7 5) (shiftField w) (field w 0 4)) := by
  rw [aluOfCode_opcode]
  unfold decodeDpShiftImm
  cases bit w 24 <;> cases bit w 23 <;> cases bit w 22 <;> cases bit w 21 <;> rfl

theorem decodeDpShiftReg_eq : decodeDpShiftReg c w = dp (aluOfCode (field w 21 4)) c (bit w 20) (field w 16 4)
    (field w 12 4) (.shiftReg (field w 8 4) (shiftField w) (field w 0 4)) := by
  rw [aluOfCode_opcode]
  unfold decodeDpShiftReg
  cases bit w 24 <;> cases bit w 23 <;> cases bit w 22 <;> cases bit w 21 <;> rfl

theorem testWithoutS_eq : testWithoutS w = ((aluOfCode (field w 21 4)).isTest && !bit w 20) := by
  rw [aluOfCode_opcode]
  unfold testWithoutS
  cases bit w 24 <;> cases bit w 23 <;> cases bit w 22 <;> cases bit w 21 <;> rfl

/-- The word of a test has the S bit set (R163). -/
theorem encode_dp_imm (op : AluOp) (c : Cond) (sb : Bool) (rn rd : RegNo) (r : BitVec 4) (k : BitVec 8) :
    encode (dp op c sb rn rd (.imm r k)) = encodeDpImm c (aluCode op) (op.isTest || sb) rn rd r k := by
  cases op <;> rfl

theorem encode_dp_shiftImm (op : AluOp) (c : Cond) (sb : Bool) (rn rd : RegNo) (n : BitVec 5) (ty : ShiftType)
    (rm : RegNo) : encode (dp op c sb rn rd (.shiftImm n ty rm))
      = encodeDpShiftImm c (aluCode op) (op.isTest || sb) rn rd n ty rm := by
  cases op <;> rfl

theorem encode_dp_shiftReg (op : AluOp) (c : Cond) (sb : Bool) (rn rd rs : RegNo) (ty : ShiftType) (rm : RegNo) :
    encode (dp op c sb rn rd (.shiftReg rs ty rm))
      = encodeDpShiftReg c (aluCode op) (op.isTest || sb) rn rd rs ty rm := by
  cases op <;> rfl

theorem wellFormed_dp (op : AluOp) (c : Cond) (sb : Bool) (rn rd : RegNo) (o : Op2) :
    (dp op c sb rn rd o).wellFormed = true := by
  cases o <;> cases op <;> rfl

theorem eq_sBit_of_testWithoutS (ht : testWithoutS w = false) :
    ((aluOfCode (field w 21 4)).isTest || bit w 20) = bit w 20 := by
  rw [testWithoutS_eq] at ht
  cases h20 : bit w 20
  · simpa [h20] using ht
  · exact Bool.or_true _

/-! ### Single transfers -/

/-- The transfer of an L and a B bit (R171). -/
def singleOfBits : Bool → Bool → Single
  | true, false => .ldr
  | true, true => .ldrb
  | false, false => .str
  | false, true => .strb

/-- The indexing of a P and a W bit (R171). -/
def indexOfBits : Bool → Bool → Index
  | true, wb => .pre wb
  | false, false => .post
  | false, true => .user

theorem decodeSingleImm_eq : decodeSingleImm c w = single (singleOfBits (bit w 20) (bit w 22)) c (bit w 23)
    (field w 16 4) (field w 12 4) (indexOfBits (bit w 24) (bit w 21)) (.imm (field w 0 12)) := by
  unfold decodeSingleImm
  cases bit w 20 <;> cases bit w 22 <;> cases bit w 24 <;> cases bit w 21 <;> rfl

theorem decodeSingleReg_eq : decodeSingleReg c w = single (singleOfBits (bit w 20) (bit w 22)) c (bit w 23)
    (field w 16 4) (field w 12 4) (indexOfBits (bit w 24) (bit w 21))
    (.reg (field w 7 5) (shiftField w) (field w 0 4)) := by
  unfold decodeSingleReg
  cases bit w 20 <;> cases bit w 22 <;> cases bit w 24 <;> cases bit w 21 <;> rfl

theorem encode_single_imm (load byte pre wb : Bool) (c : Cond) (up : Bool) (rn rd : RegNo) (v : BitVec 12) :
    encode (single (singleOfBits load byte) c up rn rd (indexOfBits pre wb) (.imm v))
      = encodeSingleImm c pre up byte wb load rn rd v := by
  cases load <;> cases byte <;> cases pre <;> cases wb <;> rfl

theorem encode_single_reg (load byte pre wb : Bool) (c : Cond) (up : Bool) (rn rd : RegNo) (n : BitVec 5)
    (ty : ShiftType) (rm : RegNo) :
    encode (single (singleOfBits load byte) c up rn rd (indexOfBits pre wb) (.reg n ty rm))
      = encodeSingleReg c pre up byte wb load rn rd n ty rm := by
  cases load <;> cases byte <;> cases pre <;> cases wb <;> rfl

theorem wellFormed_single (k : Single) (c : Cond) (up : Bool) (rn rd : RegNo) (ix : Index) (o : Offset) :
    (single k c up rn rd ix o).wellFormed = true := by
  cases k <;> cases ix <;> cases o <;> rfl

/-! ### Halfword and signed transfers -/

/-- The transfer of an L, an S and an H bit; the words with S = H = 0 are no transfers (R172). -/
def halfOfBits : Bool → Bool → Bool → HalfKind
  | true, false, _ => .ldrh
  | true, true, false => .ldrsb
  | true, true, true => .ldrsh
  | false, _, _ => .strh

/-- The indexing of a P and a W bit. -/
def preOfBits (pre wb : Bool) : Option Bool := if pre then some wb else none

/-- The P, W, L, S and H bits of a halfword or signed transfer: a post-indexed one has W = 0, a store S = 0, and S and
H are not both 0 (R172, R180). -/
def HalfBits (pre wb load signed half : Bool) : Prop :=
  (!pre && wb) = false ∧ (!load && signed) = false ∧ (signed || half) = true

theorem HalfBits.signed_or_half {pre wb load signed half : Bool} (hb : HalfBits pre wb load signed half) :
    (signed || half) = true := hb.2.2

theorem decodeHalfImm_eq : decodeHalfImm c w = half (halfOfBits (bit w 20) (bit w 6) (bit w 5)) c (bit w 23)
    (field w 16 4) (field w 12 4) (preOfBits (bit w 24) (bit w 21)) (.imm (field w 8 4 ++ field w 0 4)) := by
  unfold decodeHalfImm
  cases bit w 24 <;> cases bit w 20 <;> cases bit w 6 <;> cases bit w 5 <;> rfl

theorem decodeHalfReg_eq : decodeHalfReg c w = half (halfOfBits (bit w 20) (bit w 6) (bit w 5)) c (bit w 23)
    (field w 16 4) (field w 12 4) (preOfBits (bit w 24) (bit w 21)) (.reg (field w 0 4)) := by
  unfold decodeHalfReg
  cases bit w 24 <;> cases bit w 20 <;> cases bit w 6 <;> cases bit w 5 <;> rfl

/-- A table of the values of the five bits. -/
theorem encode_half_imm {pre wb load signed half : Bool} (hb : HalfBits pre wb load signed half) (c : Cond) (up : Bool)
    (rn rd : RegNo) (v : BitVec 8) :
    encode (Claims.half (halfOfBits load signed half) c up rn rd (preOfBits pre wb) (.imm v))
      = encodeHalfImm c pre up wb load signed half rn rd v := by
  revert hb
  cases pre <;> cases wb <;> cases load <;> cases signed <;> cases half <;> simp [HalfBits] <;> rfl

theorem encode_half_reg {pre wb load signed half : Bool} (hb : HalfBits pre wb load signed half) (c : Cond) (up : Bool)
    (rn rd rm : RegNo) :
    encode (Claims.half (halfOfBits load signed half) c up rn rd (preOfBits pre wb) (.reg rm))
      = encodeHalfReg c pre up wb load signed half rn rd rm := by
  revert hb
  cases pre <;> cases wb <;> cases load <;> cases signed <;> cases half <;> simp [HalfBits] <;> rfl

theorem wellFormed_half (k : HalfKind) (c : Cond) (up : Bool) (rn rd : RegNo) (pre : Option Bool) (o : HalfOffset) :
    (half k c up rn rd pre o).wellFormed = true := by
  cases k <;> cases pre <;> cases o <;> rfl

theorem decodeHalfword_of_halfBits (hb : HalfBits (bit w 24) (bit w 21) (bit w 20) (bit w 6) (bit w 5)) :
    decodeHalfword c w = if bit w 22 then .instr (decodeHalfImm c w) else if field w 8 4 = 0
      then .instr (decodeHalfReg c w) else .reserved c .halfword := by
  obtain ⟨hpost, hstore, -⟩ := hb
  rw [decodeHalfword, hpost, hstore]
  rfl

@[simp] theorem halves_eq (hi lo : BitVec 4) :
    (hi ++ lo : BitVec 8).extractLsb' 4 4 = hi ∧ (hi ++ lo : BitVec 8).extractLsb' 0 4 = lo :=
  ⟨BitVec.extractLsb'_append_eq_left, BitVec.extractLsb'_append_eq_right⟩

end Sys2Proof
end

section
/-! SUPPORT. The instructions that some values of their operands make ill-formed: the undefined rows by the bits of
their patterns, and SWI (R179, R180). -/

namespace Sys2Proof

/-- The lowest `n` bits of `w &&& m` are those of `x`, bit by bit from the top down. -/
def MaskedBits (w : Word) (m x : BitVec 28) : Nat → Prop
  | 0 => True
  | k + 1 => (bit w k && m.getLsbD k) = x.getLsbD k ∧ MaskedBits w m x k

@[simp] theorem maskedBits_zero (w : Word) (m x : BitVec 28) : MaskedBits w m x 0 ↔ True := Iff.rfl

@[simp] theorem maskedBits_succ (w : Word) (m x : BitVec 28) (k : Nat) :
    MaskedBits w m x (k + 1) ↔ (bit w k && m.getLsbD k) = x.getLsbD k ∧ MaskedBits w m x k := Iff.rfl

theorem maskedBits_iff {w : Word} {m x : BitVec 28} {n : Nat} :
    MaskedBits w m x n ↔ ∀ k < n, (bit w k && m.getLsbD k) = x.getLsbD k := by
  induction n with
  | zero => simp
  | succ n ih => rw [maskedBits_succ, ih, Nat.forall_lt_succ_right, and_comm]

theorem masked_field_eq_iff {w : Word} {m x : BitVec 28} : field w 0 28 &&& m = x ↔ MaskedBits w m x 28 := by
  rw [maskedBits_iff]
  constructor
  · rintro rfl k hk
    rw [BitVec.getLsbD_and, getLsbD_field]
    simp [hk]
  · intro h
    apply BitVec.eq_of_getLsbD_eq
    intro k hk
    rw [BitVec.getLsbD_and, getLsbD_field, ← h k hk]
    simp [hk]

theorem wellFormed_iff_of_mask {i : Instr} {w : Word} {m x : BitVec 28}
    (h : i.wellFormed = (field w 0 28 &&& m == x)) : i.wellFormed = true ↔ MaskedBits w m x 28 := by
  rw [h, beq_iff_eq, masked_field_eq_iff]

variable {c : Cond} {w : Word}

theorem wellFormed_undefinedA_iff : (Instr.undefinedA c (field w 0 28)).wellFormed = true ↔
    field w 25 3 = 0b011 ∧ bit w 4 = true := by
  rw [wellFormed_iff_of_mask rfl, field_three_eq_iff]
  simp [and_assoc]

theorem wellFormed_undefinedB1_iff : (Instr.undefinedB1 c (field w 0 28)).wellFormed = true ↔
    field w 25 3 = 0b000 ∧ bit w 24 = true ∧ bit w 23 = false ∧ bit w 20 = false ∧ bit w 7 = true
      ∧ bit w 4 = false := by
  rw [wellFormed_iff_of_mask rfl, field_three_eq_iff]
  simp [and_assoc]

theorem wellFormed_undefinedB2_iff : (Instr.undefinedB2 c (field w 0 28)).wellFormed = true ↔
    field w 25 3 = 0b000 ∧ bit w 24 = true ∧ bit w 23 = false ∧ bit w 20 = false ∧ bit w 7 = false ∧ bit w 6 = true
      ∧ bit w 4 = false := by
  rw [wellFormed_iff_of_mask rfl, field_three_eq_iff]
  simp [and_assoc]

theorem wellFormed_undefinedB3_iff : (Instr.undefinedB3 c (field w 0 28)).wellFormed = true ↔
    field w 25 3 = 0b000 ∧ bit w 24 = true ∧ bit w 23 = false ∧ bit w 20 = false ∧ bit w 7 = false ∧ bit w 6 = false
      ∧ bit w 5 = true ∧ bit w 4 = false := by
  rw [wellFormed_iff_of_mask rfl, field_three_eq_iff]
  simp [and_assoc]

theorem wellFormed_undefinedB4_iff : (Instr.undefinedB4 c (field w 0 28)).wellFormed = true ↔
    field w 25 3 = 0b000 ∧ bit w 24 = true ∧ bit w 23 = false ∧ bit w 20 = false ∧ bit w 7 = false
      ∧ bit w 4 = true := by
  rw [wellFormed_iff_of_mask rfl, field_three_eq_iff]
  simp [and_assoc]

theorem wellFormed_undefinedB5_iff : (Instr.undefinedB5 c (field w 0 28)).wellFormed = true ↔
    field w 25 3 = 0b001 ∧ bit w 24 = true ∧ bit w 23 = false ∧ bit w 21 = false ∧ bit w 20 = false := by
  rw [wellFormed_iff_of_mask rfl, field_three_eq_iff]
  simp [and_assoc]

theorem wellFormed_undefinedC_iff : (Instr.undefinedC c (field w 0 28)).wellFormed = true ↔
    field w 25 3 = 0b000 ∧ bit w 24 = false ∧ bit w 23 = false ∧ bit w 22 = true ∧ bit w 7 = true ∧ bit w 6 = false
      ∧ bit w 5 = false ∧ bit w 4 = true := by
  rw [wellFormed_iff_of_mask rfl, field_three_eq_iff]
  simp [and_assoc]

theorem wellFormed_undefinedD1_iff : (Instr.undefinedD1 c (field w 0 28)).wellFormed = true ↔
    field w 25 3 = 0b000 ∧ bit w 24 = true ∧ bit w 23 = true ∧ bit w 7 = true ∧ bit w 6 = false ∧ bit w 5 = false
      ∧ bit w 4 = true := by
  rw [wellFormed_iff_of_mask rfl, field_three_eq_iff]
  simp [and_assoc]

theorem wellFormed_undefinedD2_iff : (Instr.undefinedD2 c (field w 0 28)).wellFormed = true ↔
    field w 25 3 = 0b000 ∧ bit w 24 = true ∧ bit w 23 = false ∧ bit w 21 = true ∧ bit w 7 = true ∧ bit w 6 = false
      ∧ bit w 5 = false ∧ bit w 4 = true := by
  rw [wellFormed_iff_of_mask rfl, field_three_eq_iff]
  simp [and_assoc]

theorem wellFormed_undefinedD3_iff : (Instr.undefinedD3 c (field w 0 28)).wellFormed = true ↔
    field w 25 3 = 0b000 ∧ bit w 24 = true ∧ bit w 23 = false ∧ bit w 21 = false ∧ bit w 20 = true ∧ bit w 7 = true
      ∧ bit w 6 = false ∧ bit w 5 = false ∧ bit w 4 = true := by
  rw [wellFormed_iff_of_mask rfl, field_three_eq_iff]
  simp [and_assoc]

theorem wellFormed_undefinedE1_iff : (Instr.undefinedE1 c (field w 0 28)).wellFormed = true ↔
    field w 25 3 = 0b000 ∧ bit w 24 = false ∧ bit w 21 = true ∧ bit w 7 = true ∧ bit w 6 = true
      ∧ bit w 4 = true := by
  rw [wellFormed_iff_of_mask rfl, field_three_eq_iff]
  simp [and_assoc]

theorem wellFormed_undefinedE2_iff : (Instr.undefinedE2 c (field w 0 28)).wellFormed = true ↔
    field w 25 3 = 0b000 ∧ bit w 24 = false ∧ bit w 21 = true ∧ bit w 7 = true ∧ bit w 6 = false ∧ bit w 5 = true
      ∧ bit w 4 = true := by
  rw [wellFormed_iff_of_mask rfl, field_three_eq_iff]
  simp [and_assoc]

theorem wellFormed_undefinedE3_iff : (Instr.undefinedE3 c (field w 0 28)).wellFormed = true ↔
    field w 25 3 = 0b000 ∧ bit w 24 = true ∧ bit w 20 = false ∧ bit w 7 = true ∧ bit w 6 = true
      ∧ bit w 4 = true := by
  rw [wellFormed_iff_of_mask rfl, field_three_eq_iff]
  simp [and_assoc]

theorem wellFormed_undefinedE4_iff : (Instr.undefinedE4 c (field w 0 28)).wellFormed = true ↔
    field w 25 3 = 0b000 ∧ bit w 24 = false ∧ bit w 21 = false ∧ bit w 20 = false ∧ bit w 7 = true ∧ bit w 6 = true
      ∧ bit w 4 = true := by
  rw [wellFormed_iff_of_mask rfl, field_three_eq_iff]
  simp [and_assoc]

theorem wellFormed_swi_iff {n : BitVec 24} : (Instr.swi c n).wellFormed = true ↔ n ≠ 0xF00000 ∧ n ≠ 0xF00001 := by
  show (n != 0xF00000 && n != 0xF00001) = true ↔ _
  simp

end Sys2Proof
end

section
/-! SUPPORT. Every well-formed instruction is what its word decodes to: first the word of each encoder, then the
instructions (R162, R166 to R180). -/

namespace Sys2Proof

open Sys2Proof.Claims Sys2Proof.Machine

variable {c : Cond} {w : Word}

theorem decode_encodeBranch (c : Cond) (link : Bool) (offset : BitVec 24) :
    decode (encodeBranch c link offset) = .instr (if link then .bl c offset else .b c offset) := by
  generalize hw : encodeBranch c link offset = w
  obtain ⟨hc, hk, rfl, rfl⟩ := encodeBranch_eq_iff.mp hw
  rw [decode_of_code hc, decodeClass_branch hk, apply_ite Decoded.instr]

/-- The test operations have S = 1: with S = 0 their words are PSR transfers or undefined (R163). -/
theorem decode_encodeDpImm {op : BitVec 4} {sb : Bool} (hs : ((aluOfCode op).isTest && !sb) = false) (c : Cond)
    (rn rd : RegNo) (r : BitVec 4) (k : BitVec 8) :
    decode (encodeDpImm c op sb rn rd r k) = .instr (dp (aluOfCode op) c sb rn rd (.imm r k)) := by
  generalize hw : encodeDpImm c op sb rn rd r k = w
  obtain ⟨hc, hk, rfl, rfl, rfl, rfl, rfl, rfl⟩ := encodeDpImm_eq_iff.mp hw
  rw [decode_of_code hc, decodeClass_immediate hk, decodeImmediate_dp (testWithoutS_eq.trans hs), decodeDpImm_eq]

theorem decode_encodeDpShiftImm {op : BitVec 4} {sb : Bool} (hs : ((aluOfCode op).isTest && !sb) = false) (c : Cond)
    (rn rd : RegNo) (n : BitVec 5) (ty : ShiftType) (rm : RegNo) :
    decode (encodeDpShiftImm c op sb rn rd n ty rm) = .instr (dp (aluOfCode op) c sb rn rd (.shiftImm n ty rm)) := by
  generalize hw : encodeDpShiftImm c op sb rn rd n ty rm = w
  obtain ⟨hc, hk, rfl, rfl, rfl, rfl, rfl, rfl, h4, rfl⟩ := encodeDpShiftImm_eq_iff.mp hw
  rw [decode_of_code hc, decodeClass_register hk, decodeRegister_of_immediateShift h4, testWithoutS_eq, hs,
    decodeDpShiftImm_eq]
  rfl

theorem decode_encodeDpShiftReg {op : BitVec 4} {sb : Bool} (hs : ((aluOfCode op).isTest && !sb) = false) (c : Cond)
    (rn rd rs : RegNo) (ty : ShiftType) (rm : RegNo) :
    decode (encodeDpShiftReg c op sb rn rd rs ty rm)
      = .instr (dp (aluOfCode op) c sb rn rd (.shiftReg rs ty rm)) := by
  generalize hw : encodeDpShiftReg c op sb rn rd rs ty rm = w
  obtain ⟨hc, hk, rfl, rfl, rfl, rfl, rfl, h7, rfl, h4, rfl⟩ := encodeDpShiftReg_eq_iff.mp hw
  rw [decode_of_code hc, decodeClass_register hk, decodeRegister_of_registerShift h7 h4, testWithoutS_eq, hs,
    decodeDpShiftReg_eq]
  rfl

theorem decode_encodeMrs (c : Cond) (saved : Bool) (rd : RegNo) :
    decode (encodeMrs c saved rd) = .instr (if saved then .mrsSpsr c rd else .mrsCpsr c rd) := by
  generalize hw : encodeMrs c saved rd = w
  obtain ⟨hc, hk, h24, h23, rfl, h21, h20, h15, rfl, h8, h7, h6, h5, h4, h0⟩ := encodeMrs_eq_iff.mp hw
  rw [decode_of_code hc, decodeClass_register hk,
    decodeRegister_psr (testWithoutS_iff.mpr ⟨h24, h23, h20⟩) h7 h6 h5 h4, apply_ite Decoded.instr]
  simp [decodePsrReg, h21, h15, h8, h0]

theorem decode_encodeMsrReg (c : Cond) (saved : Bool) (mask : FieldMask) (rm : RegNo) :
    decode (encodeMsrReg c saved mask rm)
      = .instr (if saved then .msrSpsrReg c mask rm else .msrCpsrReg c mask rm) := by
  generalize hw : encodeMsrReg c saved mask rm = w
  obtain ⟨hc, hk, h24, h23, rfl, h21, h20, rfl, h15, h8, h7, h6, h5, h4, rfl⟩ := encodeMsrReg_eq_iff.mp hw
  rw [decode_of_code hc, decodeClass_register hk,
    decodeRegister_psr (testWithoutS_iff.mpr ⟨h24, h23, h20⟩) h7 h6 h5 h4, apply_ite Decoded.instr]
  simp [decodePsrReg, h21, h15, h8]

theorem decode_encodeMsrImm (c : Cond) (saved : Bool) (mask : FieldMask) (r : BitVec 4) (k : BitVec 8) :
    decode (encodeMsrImm c saved mask r k)
      = .instr (if saved then .msrSpsrImm c mask r k else .msrCpsrImm c mask r k) := by
  generalize hw : encodeMsrImm c saved mask r k = w
  obtain ⟨hc, hk, h24, h23, rfl, h21, h20, rfl, h15, rfl, rfl⟩ := encodeMsrImm_eq_iff.mp hw
  rw [decode_of_code hc, decodeClass_immediate hk, decodeImmediate_msr (testWithoutS_iff.mpr ⟨h24, h23, h20⟩) h21,
    decodeMsrImm, if_pos h15, apply_ite Decoded.instr]

theorem decode_encodeMultiply (c : Cond) (acc sb : Bool) (rd rn rs rm : RegNo) :
    decode (encodeMultiply c acc sb rd rn rs rm)
      = .instr (if acc then .mla c sb rd rn rs rm else .mul c sb rd rn rs rm) := by
  generalize hw : encodeMultiply c acc sb rd rn rs rm = w
  obtain ⟨hc, hk, h24, h23, h22, rfl, rfl, rfl, rfl, rfl, h7, h6, h5, h4, rfl⟩ := encodeMultiply_eq_iff.mp hw
  rw [decode_of_code hc, decodeClass_register hk, decodeRegister_multiplySwap h7 h6 h5 h4, apply_ite Decoded.instr]
  simp [decodeMultiplySwap, h24, h23, h22]

theorem decode_encodeMultiplyLong (c : Cond) (signed acc sb : Bool) (rdHi rdLo rs rm : RegNo) :
    decode (encodeMultiplyLong c signed acc sb rdHi rdLo rs rm) = .instr (match signed, acc with
      | false, false => .umull c sb rdHi rdLo rs rm
      | false, true => .umlal c sb rdHi rdLo rs rm
      | true, false => .smull c sb rdHi rdLo rs rm
      | true, true => .smlal c sb rdHi rdLo rs rm) := by
  generalize hw : encodeMultiplyLong c signed acc sb rdHi rdLo rs rm = w
  obtain ⟨hc, hk, h24, h23, h22, h21, rfl, rfl, rfl, rfl, h7, h6, h5, h4, rfl⟩ := encodeMultiplyLong_eq_iff.mp hw
  rw [decode_of_code hc, decodeClass_register hk, decodeRegister_multiplySwap h7 h6 h5 h4]
  cases signed <;> cases acc <;> simp [decodeMultiplySwap, h24, h23, h22, h21]

theorem decode_encodeSwap (c : Cond) (byte : Bool) (rn rd rm : RegNo) :
    decode (encodeSwap c byte rn rd rm) = .instr (if byte then .swpb c rn rd rm else .swp c rn rd rm) := by
  generalize hw : encodeSwap c byte rn rd rm = w
  obtain ⟨hc, hk, h24, h23, rfl, h21, h20, rfl, rfl, h8, h7, h6, h5, h4, rfl⟩ := encodeSwap_eq_iff.mp hw
  rw [decode_of_code hc, decodeClass_register hk, decodeRegister_multiplySwap h7 h6 h5 h4, apply_ite Decoded.instr]
  simp [decodeMultiplySwap, h24, h23, h21, h20, h8]

theorem decode_encodeSingleImm (c : Cond) (pre up byte wb load : Bool) (rn rd : RegNo) (v : BitVec 12) :
    decode (encodeSingleImm c pre up byte wb load rn rd v)
      = .instr (single (singleOfBits load byte) c up rn rd (indexOfBits pre wb) (.imm v)) := by
  generalize hw : encodeSingleImm c pre up byte wb load rn rd v = w
  obtain ⟨hc, hk, rfl, rfl, rfl, rfl, rfl, rfl, rfl, rfl⟩ := encodeSingleImm_eq_iff.mp hw
  rw [decode_of_code hc, decodeClass_singleImm hk, decodeSingleImm_eq]

theorem decode_encodeSingleReg (c : Cond) (pre up byte wb load : Bool) (rn rd : RegNo) (n : BitVec 5) (ty : ShiftType)
    (rm : RegNo) :
    decode (encodeSingleReg c pre up byte wb load rn rd n ty rm)
      = .instr (single (singleOfBits load byte) c up rn rd (indexOfBits pre wb) (.reg n ty rm)) := by
  generalize hw : encodeSingleReg c pre up byte wb load rn rd n ty rm = w
  obtain ⟨hc, hk, rfl, rfl, rfl, rfl, rfl, rfl, rfl, rfl, rfl, h4, rfl⟩ := encodeSingleReg_eq_iff.mp hw
  rw [decode_of_code hc, decodeClass_singleReg hk, h4, decodeSingleReg_eq]
  rfl

theorem decode_encodeHalfImm {pre wb load signed half : Bool} (hb : HalfBits pre wb load signed half) (c : Cond)
    (up : Bool) (rn rd : RegNo) (v : BitVec 8) :
    decode (encodeHalfImm c pre up wb load signed half rn rd v)
      = .instr (Claims.half (halfOfBits load signed half) c up rn rd (preOfBits pre wb) (.imm v)) := by
  generalize hw : encodeHalfImm c pre up wb load signed half rn rd v = w
  obtain ⟨hc, hk, rfl, rfl, h22, rfl, rfl, rfl, rfl, hhi, h7, rfl, rfl, h4, hlo⟩ := encodeHalfImm_eq_iff.mp hw
  rw [decode_of_code hc, decodeClass_register hk, decodeRegister_halfword h7 hb.signed_or_half h4,
    decodeHalfword_of_halfBits hb, if_pos h22, decodeHalfImm_eq, hhi, hlo, halves_append]

theorem decode_encodeHalfReg {pre wb load signed half : Bool} (hb : HalfBits pre wb load signed half) (c : Cond)
    (up : Bool) (rn rd rm : RegNo) :
    decode (encodeHalfReg c pre up wb load signed half rn rd rm)
      = .instr (Claims.half (halfOfBits load signed half) c up rn rd (preOfBits pre wb) (.reg rm)) := by
  generalize hw : encodeHalfReg c pre up wb load signed half rn rd rm = w
  obtain ⟨hc, hk, rfl, rfl, h22, rfl, rfl, rfl, rfl, h8, h7, rfl, rfl, h4, rfl⟩ := encodeHalfReg_eq_iff.mp hw
  rw [decode_of_code hc, decodeClass_register hk, decodeRegister_halfword h7 hb.signed_or_half h4,
    decodeHalfword_of_halfBits hb, if_neg (by simp [h22]), if_pos h8, decodeHalfReg_eq]

/-- An LDM with the S bit is written by `encodeBlockSplit`. -/
theorem decode_encodeBlock {sBit load : Bool} (hs : (load && sBit) = false) (c : Cond) (pre up wb : Bool) (rn : RegNo)
    (list : BitVec 16) :
    decode (encodeBlock c pre up sBit wb load rn list) = .instr (if load then .ldm c pre up wb rn list
      else if sBit then .stmUser c pre up wb rn list else .stm c pre up wb rn list) := by
  generalize hw : encodeBlock c pre up sBit wb load rn list = w
  obtain ⟨hc, hk, rfl, rfl, h22, rfl, h20, rfl, rfl⟩ := encodeBlock_eq_iff.mp hw
  rw [decode_of_code hc, decodeClass_block hk]
  revert hs
  cases load <;> cases sBit <;> simp [decodeBlock, h22, h20]

theorem decode_encodeBlockSplit (c : Cond) (pre up wb : Bool) (rn : RegNo) (pc : Bool) (list : BitVec 15) :
    decode (encodeBlockSplit c pre up wb rn pc list)
      = .instr (if pc then .ldmPc c pre up wb rn list else .ldmUser c pre up wb rn list) := by
  generalize hw : encodeBlockSplit c pre up wb rn pc list = w
  obtain ⟨hc, hk, rfl, rfl, h22, rfl, h20, rfl, h15, rfl⟩ := encodeBlockSplit_eq_iff.mp hw
  rw [decode_of_code hc, decodeClass_block hk]
  cases pc <;> simp [decodeBlock, h22, h20, h15]

theorem decode_encodeSwi (c : Cond) (n : BitVec 24) :
    decode (encodeSwi c n)
      = .instr (if n = 0xF00000 then .imb c else if n = 0xF00001 then .imbRange c else .swi c n) := by
  generalize hw : encodeSwi c n = w
  obtain ⟨hc, hk, h24, rfl⟩ := encodeSwi_eq_iff.mp hw
  rw [decode_of_code hc, decodeClass_swiCoproc hk, decodeSwiCoproc, if_pos h24]

theorem decode_encodeCdp (c : Cond) (opc crn crd cp : BitVec 4) (info : BitVec 3) (crm : BitVec 4) :
    decode (encodeCdp c opc crn crd cp info crm) = .instr (.cdp c opc crn crd cp info crm) := by
  generalize hw : encodeCdp c opc crn crd cp info crm = w
  obtain ⟨hc, hk, h24, rfl, rfl, rfl, rfl, rfl, h4, rfl⟩ := encodeCdp_eq_iff.mp hw
  rw [decode_of_code hc, decodeClass_swiCoproc hk]
  simp [decodeSwiCoproc, h24, h4]

theorem decode_encodeCoprocTransfer (c : Cond) (load pre up long wb : Bool) (rn crd cp : BitVec 4) (v : BitVec 8) :
    decode (encodeCoprocTransfer c load pre up long wb rn crd cp v)
      = .instr (if load then .ldc c pre up long wb rn crd cp v else .stc c pre up long wb rn crd cp v) := by
  generalize hw : encodeCoprocTransfer c load pre up long wb rn crd cp v = w
  obtain ⟨hc, hk, rfl, rfl, rfl, rfl, rfl, rfl, rfl, rfl, rfl⟩ := encodeCoprocTransfer_eq_iff.mp hw
  rw [decode_of_code hc, decodeClass_coprocTransfer hk, decodeCoprocTransfer]

theorem decode_encodeCoprocRegister (c : Cond) (load : Bool) (opc : BitVec 3) (crn rd cp : BitVec 4) (info : BitVec 3)
    (crm : BitVec 4) :
    decode (encodeCoprocRegister c load opc crn rd cp info crm)
      = .instr (if load then .mrc c opc crn rd cp info crm else .mcr c opc crn rd cp info crm) := by
  generalize hw : encodeCoprocRegister c load opc crn rd cp info crm = w
  obtain ⟨hc, hk, h24, rfl, rfl, rfl, rfl, rfl, rfl, h4, rfl⟩ := encodeCoprocRegister_eq_iff.mp hw
  rw [decode_of_code hc, decodeClass_swiCoproc hk]
  simp [decodeSwiCoproc, h24, h4]

/-- The word of an undefined row: the row's pattern leads the decoder to the row. -/
theorem decode_encodeUndefined {row : BitVec 28 → Instr} {bits : BitVec 28}
    (hrow : ∀ w, (row (field w 0 28)).wellFormed = true → decodeClass c w = .instr (row (field w 0 28)))
    (hwf : (row bits).wellFormed = true) : decode (encodeUndefined c bits) = .instr (row bits) := by
  generalize hw : encodeUndefined c bits = w
  obtain ⟨hc, rfl⟩ := encodeUndefined_eq_iff.mp hw
  rw [decode_of_code hc, hrow w hwf]

theorem decodeClass_undefinedA (h : (Instr.undefinedA c (field w 0 28)).wellFormed = true) :
    decodeClass c w = .instr (.undefinedA c (field w 0 28)) := by
  obtain ⟨hk, h4⟩ := wellFormed_undefinedA_iff.mp h
  rw [decodeClass_singleReg hk, if_pos h4]

theorem decodeClass_undefinedB1 (h : (Instr.undefinedB1 c (field w 0 28)).wellFormed = true) :
    decodeClass c w = .instr (.undefinedB1 c (field w 0 28)) := by
  obtain ⟨hk, h24, h23, h20, h7, h4⟩ := wellFormed_undefinedB1_iff.mp h
  rw [decodeClass_register hk, decodeRegister_of_immediateShift h4, if_pos (testWithoutS_iff.mpr ⟨h24, h23, h20⟩),
    if_pos h7]

theorem decodeClass_undefinedB2 (h : (Instr.undefinedB2 c (field w 0 28)).wellFormed = true) :
    decodeClass c w = .instr (.undefinedB2 c (field w 0 28)) := by
  obtain ⟨hk, h24, h23, h20, h7, h6, h4⟩ := wellFormed_undefinedB2_iff.mp h
  rw [decodeClass_register hk, decodeRegister_of_immediateShift h4, if_pos (testWithoutS_iff.mpr ⟨h24, h23, h20⟩),
    if_neg (ne_true_of_eq_false h7), if_pos h6]

theorem decodeClass_undefinedB3 (h : (Instr.undefinedB3 c (field w 0 28)).wellFormed = true) :
    decodeClass c w = .instr (.undefinedB3 c (field w 0 28)) := by
  obtain ⟨hk, h24, h23, h20, h7, h6, h5, h4⟩ := wellFormed_undefinedB3_iff.mp h
  rw [decodeClass_register hk, decodeRegister_of_immediateShift h4, if_pos (testWithoutS_iff.mpr ⟨h24, h23, h20⟩),
    if_neg (ne_true_of_eq_false h7), if_neg (ne_true_of_eq_false h6), if_pos h5]

theorem decodeClass_undefinedB4 (h : (Instr.undefinedB4 c (field w 0 28)).wellFormed = true) :
    decodeClass c w = .instr (.undefinedB4 c (field w 0 28)) := by
  obtain ⟨hk, h24, h23, h20, h7, h4⟩ := wellFormed_undefinedB4_iff.mp h
  rw [decodeClass_register hk, decodeRegister_of_registerShift h7 h4, if_pos (testWithoutS_iff.mpr ⟨h24, h23, h20⟩)]

theorem decodeClass_undefinedB5 (h : (Instr.undefinedB5 c (field w 0 28)).wellFormed = true) :
    decodeClass c w = .instr (.undefinedB5 c (field w 0 28)) := by
  obtain ⟨hk, h24, h23, h21, h20⟩ := wellFormed_undefinedB5_iff.mp h
  rw [decodeClass_immediate hk]
  exact (if_pos (testWithoutS_iff.mpr ⟨h24, h23, h20⟩)).trans (if_neg (ne_true_of_eq_false h21))

theorem decodeClass_undefinedC (h : (Instr.undefinedC c (field w 0 28)).wellFormed = true) :
    decodeClass c w = .instr (.undefinedC c (field w 0 28)) := by
  obtain ⟨hk, h24, h23, h22, h7, h6, h5, h4⟩ := wellFormed_undefinedC_iff.mp h
  rw [decodeClass_register hk, decodeRegister_multiplySwap h7 h6 h5 h4]
  exact (if_neg (ne_true_of_eq_false h24)).trans <| (if_neg (ne_true_of_eq_false h23)).trans (if_pos h22)

theorem decodeClass_undefinedD1 (h : (Instr.undefinedD1 c (field w 0 28)).wellFormed = true) :
    decodeClass c w = .instr (.undefinedD1 c (field w 0 28)) := by
  obtain ⟨hk, h24, h23, h7, h6, h5, h4⟩ := wellFormed_undefinedD1_iff.mp h
  rw [decodeClass_register hk, decodeRegister_multiplySwap h7 h6 h5 h4]
  exact (if_pos h24).trans (if_pos h23)

theorem decodeClass_undefinedD2 (h : (Instr.undefinedD2 c (field w 0 28)).wellFormed = true) :
    decodeClass c w = .instr (.undefinedD2 c (field w 0 28)) := by
  obtain ⟨hk, h24, h23, h21, h7, h6, h5, h4⟩ := wellFormed_undefinedD2_iff.mp h
  rw [decodeClass_register hk, decodeRegister_multiplySwap h7 h6 h5 h4]
  exact (if_pos h24).trans <| (if_neg (ne_true_of_eq_false h23)).trans (if_pos h21)

theorem decodeClass_undefinedD3 (h : (Instr.undefinedD3 c (field w 0 28)).wellFormed = true) :
    decodeClass c w = .instr (.undefinedD3 c (field w 0 28)) := by
  obtain ⟨hk, h24, h23, h21, h20, h7, h6, h5, h4⟩ := wellFormed_undefinedD3_iff.mp h
  rw [decodeClass_register hk, decodeRegister_multiplySwap h7 h6 h5 h4]
  exact (if_pos h24).trans <| (if_neg (ne_true_of_eq_false h23)).trans <|
    (if_neg (ne_true_of_eq_false h21)).trans (if_pos h20)

theorem decodeClass_undefinedE1 (h : (Instr.undefinedE1 c (field w 0 28)).wellFormed = true) :
    decodeClass c w = .instr (.undefinedE1 c (field w 0 28)) := by
  obtain ⟨hk, h24, h21, h7, h6, h4⟩ := wellFormed_undefinedE1_iff.mp h
  rw [decodeClass_register hk, decodeRegister_halfword h7 (by simp [h6]) h4]
  exact (if_pos (by simp [h24, h21])).trans (if_pos h6)

theorem decodeClass_undefinedE2 (h : (Instr.undefinedE2 c (field w 0 28)).wellFormed = true) :
    decodeClass c w = .instr (.undefinedE2 c (field w 0 28)) := by
  obtain ⟨hk, h24, h21, h7, h6, h5, h4⟩ := wellFormed_undefinedE2_iff.mp h
  rw [decodeClass_register hk, decodeRegister_halfword h7 (by simp [h5]) h4]
  exact (if_pos (by simp [h24, h21])).trans (if_neg (ne_true_of_eq_false h6))

theorem decodeClass_undefinedE3 (h : (Instr.undefinedE3 c (field w 0 28)).wellFormed = true) :
    decodeClass c w = .instr (.undefinedE3 c (field w 0 28)) := by
  obtain ⟨hk, h24, h20, h7, h6, h4⟩ := wellFormed_undefinedE3_iff.mp h
  rw [decodeClass_register hk, decodeRegister_halfword h7 (by simp [h6]) h4]
  exact (if_neg (by simp [h24])).trans <| (if_pos (by simp [h20, h6])).trans (if_pos h24)

theorem decodeClass_undefinedE4 (h : (Instr.undefinedE4 c (field w 0 28)).wellFormed = true) :
    decodeClass c w = .instr (.undefinedE4 c (field w 0 28)) := by
  obtain ⟨hk, h24, h21, h20, h7, h6, h4⟩ := wellFormed_undefinedE4_iff.mp h
  rw [decodeClass_register hk, decodeRegister_halfword h7 (by simp [h6]) h4]
  exact (if_neg (by simp [h21])).trans <| (if_pos (by simp [h20, h6])).trans (if_neg (ne_true_of_eq_false h24))

/-- Settles O54: the case of a constructor names the encoder that writes its word. -/
theorem decodeEncode : Obligations.DecodeEncode := by
  intro i hwf
  cases i
  case b | bl => exact decode_encodeBranch ..
  case andImm | eorImm | subImm | rsbImm | addImm | adcImm | sbcImm | rscImm | tstImm | teqImm | cmpImm |
      cmnImm | orrImm | movImm | bicImm | mvnImm => exact decode_encodeDpImm rfl ..
  case andShiftImm | eorShiftImm | subShiftImm | rsbShiftImm | addShiftImm | adcShiftImm | sbcShiftImm |
      rscShiftImm | tstShiftImm | teqShiftImm | cmpShiftImm | cmnShiftImm | orrShiftImm | movShiftImm |
      bicShiftImm | mvnShiftImm => exact decode_encodeDpShiftImm rfl ..
  case andShiftReg | eorShiftReg | subShiftReg | rsbShiftReg | addShiftReg | adcShiftReg | sbcShiftReg |
      rscShiftReg | tstShiftReg | teqShiftReg | cmpShiftReg | cmnShiftReg | orrShiftReg | movShiftReg |
      bicShiftReg | mvnShiftReg => exact decode_encodeDpShiftReg rfl ..
  case mrsCpsr | mrsSpsr => exact decode_encodeMrs ..
  case msrCpsrReg | msrSpsrReg => exact decode_encodeMsrReg ..
  case msrCpsrImm | msrSpsrImm => exact decode_encodeMsrImm ..
  case mul | mla => exact decode_encodeMultiply ..
  case umull | umlal | smull | smlal => exact decode_encodeMultiplyLong ..
  case ldrImmPre | ldrImmPost | ldrtImm | ldrbImmPre | ldrbImmPost | ldrbtImm | strImmPre | strImmPost | strtImm |
      strbImmPre | strbImmPost | strbtImm => exact decode_encodeSingleImm ..
  case ldrRegPre | ldrRegPost | ldrtReg | ldrbRegPre | ldrbRegPost | ldrbtReg | strRegPre | strRegPost | strtReg |
      strbRegPre | strbRegPost | strbtReg => exact decode_encodeSingleReg ..
  case ldrhImmPre | ldrhImmPost | ldrsbImmPre | ldrsbImmPost | ldrshImmPre | ldrshImmPost | strhImmPre |
      strhImmPost => exact decode_encodeHalfImm ⟨rfl, rfl, rfl⟩ ..
  case ldrhRegPre | ldrhRegPost | ldrsbRegPre | ldrsbRegPost | ldrshRegPre | ldrshRegPost | strhRegPre |
      strhRegPost => exact decode_encodeHalfReg ⟨rfl, rfl, rfl⟩ ..
  case ldm | stm | stmUser => exact decode_encodeBlock rfl ..
  case ldmPc | ldmUser => exact decode_encodeBlockSplit ..
  case swp | swpb => exact decode_encodeSwap ..
  case swi c n =>
    obtain ⟨himb, hrange⟩ := wellFormed_swi_iff.mp hwf
    exact (decode_encodeSwi c n).trans (by rw [if_neg himb, if_neg hrange])
  case imb | imbRange => exact decode_encodeSwi ..
  case cdp => exact decode_encodeCdp ..
  case ldc | stc => exact decode_encodeCoprocTransfer ..
  case mrc | mcr => exact decode_encodeCoprocRegister ..
  case undefinedA => exact decode_encodeUndefined (fun _ => decodeClass_undefinedA) hwf
  case undefinedB1 => exact decode_encodeUndefined (fun _ => decodeClass_undefinedB1) hwf
  case undefinedB2 => exact decode_encodeUndefined (fun _ => decodeClass_undefinedB2) hwf
  case undefinedB3 => exact decode_encodeUndefined (fun _ => decodeClass_undefinedB3) hwf
  case undefinedB4 => exact decode_encodeUndefined (fun _ => decodeClass_undefinedB4) hwf
  case undefinedB5 => exact decode_encodeUndefined (fun _ => decodeClass_undefinedB5) hwf
  case undefinedC => exact decode_encodeUndefined (fun _ => decodeClass_undefinedC) hwf
  case undefinedD1 => exact decode_encodeUndefined (fun _ => decodeClass_undefinedD1) hwf
  case undefinedD2 => exact decode_encodeUndefined (fun _ => decodeClass_undefinedD2) hwf
  case undefinedD3 => exact decode_encodeUndefined (fun _ => decodeClass_undefinedD3) hwf
  case undefinedE1 => exact decode_encodeUndefined (fun _ => decodeClass_undefinedE1) hwf
  case undefinedE2 => exact decode_encodeUndefined (fun _ => decodeClass_undefinedE2) hwf
  case undefinedE3 => exact decode_encodeUndefined (fun _ => decodeClass_undefinedE3) hwf
  case undefinedE4 => exact decode_encodeUndefined (fun _ => decodeClass_undefinedE4) hwf

end Sys2Proof
end

section
/-! SUPPORT. Every word that decodes to an instruction is that instruction's word: the decoder branch by branch, with
the bits that each branch has tested (R164, R184). -/

namespace Sys2Proof

open Sys2Proof.Claims Sys2Proof.Machine

variable {c : Cond} {w : Word}

/-- Where a result of the decoder is an instruction, that instruction is well-formed and its word is `w`. -/
def SoundFor (w : Word) (d : Decoded) : Prop := ∀ i, d = .instr i → i.wellFormed = true ∧ encode i = w

theorem soundFor_reserved {r : ReservedField} : SoundFor w (.reserved c r) := by
  rintro _ ⟨⟩

theorem soundFor_instr {i : Instr} (hwf : i.wellFormed = true) (henc : encode i = w) : SoundFor w (.instr i) := by
  rintro _ ⟨⟩
  exact ⟨hwf, henc⟩

theorem soundFor_ite {p : Prop} [Decidable p] {a b : Decoded} (ha : p → SoundFor w a) (hb : ¬ p → SoundFor w b) :
    SoundFor w (if p then a else b) := by
  split
  · exact ha ‹_›
  · exact hb ‹_›

section
variable (hc : field w 28 4 = c.code)
include hc

/-- An undefined row keeps its bits 27:0, so only their pattern is left to check (R180). -/
theorem soundFor_undefined {i : Instr} (henc : encode i = encodeUndefined c (field w 0 28))
    (hwf : i.wellFormed = true) : SoundFor w (.instr i) :=
  soundFor_instr hwf (henc.trans (encodeUndefined_eq_iff.mpr ⟨hc, rfl⟩))

theorem soundFor_decodeDpImm (hk : field w 25 3 = 0b001) (ht : testWithoutS w = false) :
    SoundFor w (.instr (decodeDpImm c w)) := by
  rw [decodeDpImm_eq]
  refine soundFor_instr (wellFormed_dp ..) ?_
  rw [encode_dp_imm, encodeDpImm_eq_iff, aluCode_aluOfCode, eq_sBit_of_testWithoutS ht]
  exact ⟨hc, hk, rfl, rfl, rfl, rfl, rfl, rfl⟩

theorem soundFor_decodeDpShiftImm (hk : field w 25 3 = 0b000) (h4 : bit w 4 = false) (ht : testWithoutS w = false) :
    SoundFor w (.instr (decodeDpShiftImm c w)) := by
  rw [decodeDpShiftImm_eq]
  refine soundFor_instr (wellFormed_dp ..) ?_
  rw [encode_dp_shiftImm, encodeDpShiftImm_eq_iff, aluCode_aluOfCode, eq_sBit_of_testWithoutS ht]
  exact ⟨hc, hk, rfl, rfl, rfl, rfl, rfl, rfl, h4, rfl⟩

theorem soundFor_decodeDpShiftReg (hk : field w 25 3 = 0b000) (h7 : bit w 7 = false) (h4 : bit w 4 = true)
    (ht : testWithoutS w = false) : SoundFor w (.instr (decodeDpShiftReg c w)) := by
  rw [decodeDpShiftReg_eq]
  refine soundFor_instr (wellFormed_dp ..) ?_
  rw [encode_dp_shiftReg, encodeDpShiftReg_eq_iff, aluCode_aluOfCode, eq_sBit_of_testWithoutS ht]
  exact ⟨hc, hk, rfl, rfl, rfl, rfl, rfl, h7, rfl, h4, rfl⟩

theorem soundFor_decodePsrReg (hk : field w 25 3 = 0b000) (ht : testWithoutS w = true)
    (h7 : bit w 7 = false) (h6 : bit w 6 = false) (h5 : bit w 5 = false) (h4 : bit w 4 = false) :
    SoundFor w (decodePsrReg c w) := by
  obtain ⟨h24, h23, h20⟩ := testWithoutS_iff.mp ht
  refine soundFor_ite (fun h21 => ?msr) fun h21 => ?mrs
  case msr =>
    refine soundFor_ite ?_ fun _ => soundFor_reserved
    rintro ⟨h15, h8⟩
    refine soundFor_ite (fun h22 => ?_) fun h22 => ?_
    all_goals
      refine soundFor_instr rfl (encodeMsrReg_eq_iff.mpr ?_)
      simp [*]
  case mrs =>
    refine soundFor_ite ?_ fun _ => soundFor_reserved
    rintro ⟨h15, h8, h0⟩
    refine soundFor_ite (fun h22 => ?_) fun h22 => ?_
    all_goals
      refine soundFor_instr rfl (encodeMrs_eq_iff.mpr ?_)
      simp [*]

theorem soundFor_decodeMsrImm (hk : field w 25 3 = 0b001) (ht : testWithoutS w = true) (h21 : bit w 21 = true) :
    SoundFor w (decodeMsrImm c w) := by
  obtain ⟨h24, h23, h20⟩ := testWithoutS_iff.mp ht
  refine soundFor_ite (fun h15 => ?_) fun _ => soundFor_reserved
  refine soundFor_ite (fun h22 => ?_) fun h22 => ?_
  all_goals
    refine soundFor_instr rfl (encodeMsrImm_eq_iff.mpr ?_)
    simp [*]

theorem soundFor_decodeMultiplySwap (hk : field w 25 3 = 0b000) (h7 : bit w 7 = true) (h6 : bit w 6 = false)
    (h5 : bit w 5 = false) (h4 : bit w 4 = true) : SoundFor w (decodeMultiplySwap c w) := by
  refine soundFor_ite (fun h24 => ?swap) fun h24 => ?multiply
  case swap =>
    refine soundFor_ite (fun h23 => ?_) fun h23 => soundFor_ite (fun h21 => ?_) fun h21 =>
      soundFor_ite (fun h20 => ?_) fun h20 => soundFor_ite (fun h8 => soundFor_ite (fun h22 => ?_) fun h22 => ?_)
        fun _ => soundFor_reserved
    · exact soundFor_undefined hc rfl (wellFormed_undefinedD1_iff.mpr (by simp [*]))
    · exact soundFor_undefined hc rfl (wellFormed_undefinedD2_iff.mpr (by simp [*]))
    · exact soundFor_undefined hc rfl (wellFormed_undefinedD3_iff.mpr (by simp [*]))
    all_goals
      refine soundFor_instr rfl (encodeSwap_eq_iff.mpr ?_)
      simp [*]
  case multiply =>
    refine soundFor_ite (fun h23 => ?long) fun h23 => soundFor_ite (fun h22 => ?_) fun h22 =>
      soundFor_ite (fun h21 => ?_) fun h21 => ?_
    case long =>
      cases h22 : bit w 22 <;> cases h21 : bit w 21
      all_goals
        refine soundFor_instr rfl (encodeMultiplyLong_eq_iff.mpr ?_)
        simp [*]
    · exact soundFor_undefined hc rfl (wellFormed_undefinedC_iff.mpr (by simp [*]))
    all_goals
      refine soundFor_instr rfl (encodeMultiply_eq_iff.mpr ?_)
      simp [*]

theorem soundFor_decodeHalfword (hk : field w 25 3 = 0b000) (h7 : bit w 7 = true) (h4 : bit w 4 = true)
    (h65 : (bit w 6 || bit w 5) = true) : SoundFor w (decodeHalfword c w) := by
  refine soundFor_ite (fun hpost => ?_) fun hpost => soundFor_ite (fun hstore => ?_) fun hstore => ?_
  · obtain ⟨h24, h21⟩ : bit w 24 = false ∧ bit w 21 = true := by simpa using hpost
    refine soundFor_ite (fun h6 => ?_) fun h6 => ?_
    · exact soundFor_undefined hc rfl (wellFormed_undefinedE1_iff.mpr (by simp [*]))
    · exact soundFor_undefined hc rfl (wellFormed_undefinedE2_iff.mpr (by simpa [*] using h65))
  · obtain ⟨h20, h6⟩ : bit w 20 = false ∧ bit w 6 = true := by simpa using hstore
    refine soundFor_ite (fun h24 => ?_) fun h24 => ?_
    · exact soundFor_undefined hc rfl (wellFormed_undefinedE3_iff.mpr (by simp [*]))
    · exact soundFor_undefined hc rfl (wellFormed_undefinedE4_iff.mpr (by simpa [*] using hpost))
  · have hb : HalfBits (bit w 24) (bit w 21) (bit w 20) (bit w 6) (bit w 5) :=
      ⟨by simpa using hpost, by simpa using hstore, h65⟩
    refine soundFor_ite (fun h22 => ?_) fun h22 => soundFor_ite (fun h8 => ?_) fun _ => soundFor_reserved
    · rw [decodeHalfImm_eq]
      refine soundFor_instr (wellFormed_half ..) ?_
      rw [encode_half_imm hb, encodeHalfImm_eq_iff]
      simp [*]
    · rw [decodeHalfReg_eq]
      refine soundFor_instr (wellFormed_half ..) ?_
      rw [encode_half_reg hb, encodeHalfReg_eq_iff]
      simp [*]

theorem soundFor_decodeRegister (hk : field w 25 3 = 0b000) : SoundFor w (decodeRegister c w) := by
  cases h4 : bit w 4 with
  | true =>
    cases h7 : bit w 7 with
    | true =>
      rw [decodeRegister_of_extension h7 h4]
      refine soundFor_ite (fun h65 => soundFor_decodeHalfword hc hk h7 h4 h65) fun h65 => ?_
      obtain ⟨h6, h5⟩ : bit w 6 = false ∧ bit w 5 = false := by simpa using h65
      exact soundFor_decodeMultiplySwap hc hk h7 h6 h5 h4
    | false =>
      rw [decodeRegister_of_registerShift h7 h4]
      refine soundFor_ite (fun ht => ?_) fun ht => ?_
      · obtain ⟨h24, h23, h20⟩ := testWithoutS_iff.mp ht
        exact soundFor_undefined hc rfl (wellFormed_undefinedB4_iff.mpr (by simp [*]))
      · exact soundFor_decodeDpShiftReg hc hk h7 h4 (by simpa using ht)
  | false =>
    rw [decodeRegister_of_immediateShift h4]
    refine soundFor_ite (fun ht => ?_) fun ht => soundFor_decodeDpShiftImm hc hk h4 (by simpa using ht)
    obtain ⟨h24, h23, h20⟩ := testWithoutS_iff.mp ht
    refine soundFor_ite (fun h7 => ?_) fun h7 => soundFor_ite (fun h6 => ?_) fun h6 =>
      soundFor_ite (fun h5 => ?_) fun h5 => ?_
    · exact soundFor_undefined hc rfl (wellFormed_undefinedB1_iff.mpr (by simp [*]))
    · exact soundFor_undefined hc rfl (wellFormed_undefinedB2_iff.mpr (by simp [*]))
    · exact soundFor_undefined hc rfl (wellFormed_undefinedB3_iff.mpr (by simp [*]))
    · exact soundFor_decodePsrReg hc hk ht (by simpa using h7) (by simpa using h6) (by simpa using h5) h4

theorem soundFor_decodeImmediate (hk : field w 25 3 = 0b001) : SoundFor w (decodeImmediate c w) := by
  refine soundFor_ite (fun ht => ?_) fun ht => soundFor_decodeDpImm hc hk (by simpa using ht)
  refine soundFor_ite (fun h21 => soundFor_decodeMsrImm hc hk ht h21) fun h21 => ?_
  obtain ⟨h24, h23, h20⟩ := testWithoutS_iff.mp ht
  exact soundFor_undefined hc rfl (wellFormed_undefinedB5_iff.mpr (by simp [*]))

theorem soundFor_decodeSingleImm (hk : field w 25 3 = 0b010) : SoundFor w (.instr (decodeSingleImm c w)) := by
  rw [decodeSingleImm_eq]
  refine soundFor_instr (wellFormed_single ..) ?_
  rw [encode_single_imm, encodeSingleImm_eq_iff]
  exact ⟨hc, hk, rfl, rfl, rfl, rfl, rfl, rfl, rfl, rfl⟩

theorem soundFor_decodeSingleReg (hk : field w 25 3 = 0b011) (h4 : bit w 4 = false) :
    SoundFor w (.instr (decodeSingleReg c w)) := by
  rw [decodeSingleReg_eq]
  refine soundFor_instr (wellFormed_single ..) ?_
  rw [encode_single_reg, encodeSingleReg_eq_iff]
  exact ⟨hc, hk, rfl, rfl, rfl, rfl, rfl, rfl, rfl, rfl, rfl, h4, rfl⟩

theorem soundFor_decodeBlock (hk : field w 25 3 = 0b100) : SoundFor w (.instr (decodeBlock c w)) := by
  unfold decodeBlock
  cases h20 : bit w 20 with
  | false =>
    cases h22 : bit w 22
    all_goals exact soundFor_instr rfl (encodeBlock_eq_iff.mpr (by simp [*]))
  | true =>
    cases h22 : bit w 22 with
    | false => exact soundFor_instr rfl (encodeBlock_eq_iff.mpr (by simp [*]))
    | true =>
      cases h15 : bit w 15
      all_goals exact soundFor_instr rfl (encodeBlockSplit_eq_iff.mpr (by simp [*]))

theorem soundFor_decodeCoprocTransfer (hk : field w 25 3 = 0b110) :
    SoundFor w (.instr (decodeCoprocTransfer c w)) := by
  unfold decodeCoprocTransfer
  split
  all_goals exact soundFor_instr rfl (encodeCoprocTransfer_eq_iff.mpr (by simp [*]))

theorem soundFor_decodeSwiCoproc (hk : field w 25 3 = 0b111) : SoundFor w (.instr (decodeSwiCoproc c w)) := by
  unfold decodeSwiCoproc
  split
  case isTrue h24 =>
    split
    · exact soundFor_instr rfl (encodeSwi_eq_iff.mpr (by simp [*]))
    split
    · exact soundFor_instr rfl (encodeSwi_eq_iff.mpr (by simp [*]))
    · refine soundFor_instr ?_ (encodeSwi_eq_iff.mpr (by simp [*]))
      exact wellFormed_swi_iff.mpr ⟨‹_›, ‹_›⟩
  case isFalse h24 =>
    split
    · split
      all_goals exact soundFor_instr rfl (encodeCoprocRegister_eq_iff.mpr (by simp [*]))
    · exact soundFor_instr rfl (encodeCdp_eq_iff.mpr (by simp [*]))

theorem soundFor_decodeClass : SoundFor w (decodeClass c w) := by
  rcases class_cases (field w 25 3) with hk | hk | hk | hk | hk | hk | hk | hk
  · rw [decodeClass_register hk]
    exact soundFor_decodeRegister hc hk
  · rw [decodeClass_immediate hk]
    exact soundFor_decodeImmediate hc hk
  · rw [decodeClass_singleImm hk]
    exact soundFor_decodeSingleImm hc hk
  · rw [decodeClass_singleReg hk]
    refine soundFor_ite (fun h4 => ?_) fun h4 => soundFor_decodeSingleReg hc hk (by simpa using h4)
    exact soundFor_undefined hc rfl (wellFormed_undefinedA_iff.mpr ⟨hk, h4⟩)
  · rw [decodeClass_block hk]
    exact soundFor_decodeBlock hc hk
  · rw [decodeClass_branch hk]
    refine soundFor_ite (fun h24 => ?_) fun h24 => ?_
    all_goals exact soundFor_instr rfl (encodeBranch_eq_iff.mpr (by simp [*]))
  · rw [decodeClass_coprocTransfer hk]
    exact soundFor_decodeCoprocTransfer hc hk
  · rw [decodeClass_swiCoproc hk]
    exact soundFor_decodeSwiCoproc hc hk

end

theorem soundFor_decode (w : Word) : SoundFor w (decode w) := by
  unfold decode
  split
  · exact soundFor_decodeClass (code_of_ofCode ‹_›)
  · rintro _ ⟨⟩

/-- Settles O55. -/
theorem encodeDecode : Obligations.EncodeDecode := soundFor_decode

end Sys2Proof
end

section
/-! SUPPORT. The condition test and the instruction cycle (spec/40_conditional_execution.md R221 to R225): every instruction
tests its condition first, goes on to a sequential fetch by `advance` alone, and is what a step runs. -/

namespace Sys2Proof.Machine

open Sys2Proof.Claims

/-! ### The condition -/

theorem decode_of_reservedCondition {w : Word} (h : field w 28 4 = 0b1111) : decode w = .reservedCondition := by
  rw [decode, h]
  rfl

/-- Every instruction tests its condition before anything else (R13, R225). -/
theorem exec_eq_whenPassed (i : Instr) (s : State) : ∃ k, exec i s = whenPassed i.cond s k := by
  cases i <;> exact ⟨_, rfl⟩

theorem exec_of_failed {i : Instr} {s : State} (h : conditionPassed i.cond s.cpsr = false) : exec i s = advance s := by
  obtain ⟨k, hk⟩ := exec_eq_whenPassed i s
  rw [hk, whenPassed_fail h]

theorem fits_iff {s : State} : Fits s ↔ (is26 s.cpsr.mode && s.pc == 0x03FFFFFC) = false := by
  simp [Fits]

theorem advance_of_not_fits {s : State} (h : ¬ Fits s) : advance s = .refused .sequentialWrap26 := by
  rw [fits_iff, Bool.not_eq_false] at h
  rw [advance, if_pos h]

theorem fits_of_advance {s t : State} (h : advance s = .next t) : Fits s := fits_iff.mpr (advance_eq_next.mp h).1

/-! ### Where no IMB is owed -/

section
variable {s : State} (h : s.pc ∉ s.imbOwed)
include h

theorem execDecoded_instr_of_not_owed (i : Instr) : execDecoded (.instr i) s = expireImbOutcome s (exec i s) := by
  have hc : (s.imbOwed.contains s.pc && !isExecutedSwi i s) = false := by simp [h]
  rw [execDecoded, if_neg (by rw [hc]; exact Bool.false_ne_true)]

theorem execDecoded_reserved_of_not_owed (c : Cond) (why : ReservedField) :
    execDecoded (.reserved c why) s = expireImbOutcome s (whenPassed c s (.refused (reservedRefusal why))) := by
  rw [execDecoded, if_neg (by simpa using h)]

theorem execDecoded_reserved_passed {c : Cond} (hc : conditionPassed c s.cpsr = true) (why : ReservedField) :
    execDecoded (.reserved c why) s = .refused (reservedRefusal why) := by
  rw [execDecoded_reserved_of_not_owed h, whenPassed_pass hc]
  rfl

theorem execDecoded_reserved_failed {c : Cond} (hc : conditionPassed c s.cpsr = false) (hf : Fits s)
    (why : ReservedField) : execDecoded (.reserved c why) s
      = .next (expireImb s { s with pc := s.pc + 4, nextFetch := .sequential }) := by
  rw [execDecoded_reserved_of_not_owed h, whenPassed_fail hc, advance_of_fits hf]
  rfl

end

/-! ### The step -/

/-- What a step makes of the outcome of the instruction at the PC: the end of the step, or the same stop (R225). -/
def endStepOutcome (s : State) : Result → Result
  | .next t => .next (endStep s t)
  | .fault r => .fault r
  | .refused r => .refused r

theorem step_of_not_inReset {s : State} (h : s.inReset = false) : step s = endStepOutcome s (runInstruction s) := by
  rw [step, cycle, if_neg (by simp [h])]
  cases runInstruction s <;> rfl

theorem runInstruction_of_fetched {s : State} (ha : fetchAborts s = false) (hs : fetchStale s = false) :
    runInstruction s = execDecoded (decode (wordAt s s.pc)) s := by
  rw [runInstruction, ha, hs]
  rfl

/-! ### Sequential ends -/

/-- Where `k` answers a next state that is fetched sequentially, `advance` led there from the PC of `s`. `Acts` does not say
so: it leaves open which fetch follows an instruction that is held. -/
def AdvancesIfSequential (s : State) (k : Result) : Prop :=
  ∀ t, k = .next t → t.nextFetch = .sequential → ∃ u, u.pc = s.pc ∧ advance u = .next t

/-- No update moves the PC. -/
theorem Updates.pc_eq {s u : State} (h : Updates s u) : u.pc = s.pc := by
  induction h with
  | refl => rfl
  | tail _ hu ih =>
    rw [← ih]
    cases hu with
    | reg | spsr | byte | half | word => simp
    | flags | control => rfl
    | records _ hu => rw [hu]

@[simp] theorem writeBack_pc (s : State) (pre wb : Bool) (rn : RegNo) (v : Word) : (writeBack s pre wb rn v).pc = s.pc :=
  (Updates.writeBack .refl pre wb rn v).pc_eq

@[simp] theorem loadedState_pc (s : State) (up wb : Bool) (rn : RegNo) (base : Word) (l : List (RegNo × Word)) :
    (loadedState s up wb rn base l).pc = s.pc := (Updates.loadedState s up wb rn base l).pc_eq

@[simp] theorem writeBlock_pc (s : State) (first : Bool) (a : Word) (l : List Word) :
    (writeBlock s first a l).state.pc = s.pc := (Updates.writeBlock .refl first a l).pc_eq

@[simp] theorem writeLoaded_writeUserReg_pc (s : State) (l : List (RegNo × Word)) :
    (writeLoaded writeUserReg s l).pc = s.pc := (Updates.writeLoaded (fun i v h => h.writeUserReg i v) .refl l).pc_eq

namespace AdvancesIfSequential

section
variable {s u : State} {k : Result}

theorem refused (r : Refusal) : AdvancesIfSequential s (.refused r) := by
  intro t ht
  cases ht

theorem refuseIf (h : AdvancesIfSequential s k) (b : Bool) (r : Refusal) : AdvancesIfSequential s (refuseIf b r k) :=
  fun t ht => h t (refuseIf_eq_next.mp ht).2

theorem advance (h : u.pc = s.pc) : AdvancesIfSequential s (advance u) := fun _ ht _ => ⟨u, h, ht⟩

/-- A jump, an exception entry, an instruction held: the fetch that follows is not sequential. -/
theorem of_nextFetch_ne (h : u.nextFetch ≠ .sequential) : AdvancesIfSequential s (.next u) := by
  rintro t ⟨⟩ hs
  exact absurd hs h

theorem branchTo (a : Word) : AdvancesIfSequential s (.next (branchTo u a)) := of_nextFetch_ne (by simp)

theorem takeException (e : Exc) (ret : Word) : AdvancesIfSequential s (.next (takeException e ret u)) :=
  of_nextFetch_ne (by simp)

theorem softwareInterrupt : AdvancesIfSequential s (.next (softwareInterrupt u)) :=
  of_nextFetch_ne (by simp [Machine.softwareInterrupt])

theorem whenPassed (h : AdvancesIfSequential s k) (c : Cond) : AdvancesIfSequential s (whenPassed c s k) := by
  unfold Machine.whenPassed
  split
  · exact h
  · exact .advance rfl

theorem writeResult (h : u.pc = s.pc) (rd : RegNo) (v : Word) : AdvancesIfSequential s (writeResult u rd v) := by
  unfold Machine.writeResult
  split
  · exact .branchTo v
  · exact .advance (by simpa using h)

theorem returnFromException (a : Word) (r : Refusal) : AdvancesIfSequential s (returnFromException u a r) := by
  intro t ht
  obtain ⟨p, q, -, -, -, rfl⟩ := returnFromException_eq_next.mp ht
  exact branchTo a _ rfl

theorem checkSingle (h : AdvancesIfSequential s k) (load byte pre wb : Bool) (rn rd : RegNo) :
    AdvancesIfSequential s (checkSingle load byte pre wb rn rd s k) :=
  h.refuseIf _ _ |>.refuseIf _ _ |>.refuseIf _ _ |>.refuseIf _ _

theorem checkHalf (h : AdvancesIfSequential s k) (load pre wb : Bool) (rn rd : RegNo) :
    AdvancesIfSequential s (checkHalf load pre wb rn rd s k) :=
  h.refuseIf _ _ |>.refuseIf _ _ |>.refuseIf _ _ |>.refuseIf _ _

theorem checkOffset (h : AdvancesIfSequential s k) (pre : Bool) (rn rm : RegNo) :
    AdvancesIfSequential s (checkOffset pre rn rm k) := h.refuseIf _ _ |>.refuseIf _ _

theorem checkBlock (h : AdvancesIfSequential s k) (rn : RegNo) (list : BitVec 16) :
    AdvancesIfSequential s (checkBlock rn list k) := h.refuseIf _ _ |>.refuseIf _ _

theorem blockLoad {k : Word → List (RegNo × Word) → Result} (hk : ∀ base l, AdvancesIfSequential s (k base l))
    (phys : RegNo → Option PhysReg) (pre up : Bool) (rn : RegNo) (list : BitVec 16) :
    AdvancesIfSequential s (blockLoad phys pre up rn list s k) := by
  unfold Machine.blockLoad
  dsimp only
  split
  · exact .takeException _ _
  · exact hk _ _

theorem offer {k : Word → State → Result} (hk : ∀ d u, u.pc = s.pc → AdvancesIfSequential s (k d u)) :
    AdvancesIfSequential s (offer s k) := by
  intro t ht
  rcases offer_eq_next.mp ht with ⟨-, rfl⟩ | ⟨rest, -, rfl⟩ | ⟨r, rest, -, -, rfl⟩ | ⟨d, rest, -, h⟩
  · exact takeException _ _ _ rfl
  · exact takeException _ _ _ rfl
  · exact of_nextFetch_ne (by simp [busyWait]) _ rfl
  · exact hk d { s with coproc := rest } rfl t h

end

section
variable (s : State)

theorem finishAlu (op : AluOp) (sb : Bool) (rd : RegNo) (r : AluResult) :
    AdvancesIfSequential s (finishAlu op sb rd r s) := by
  intro t ht
  rcases finishAlu_eq_next.mp ht with ⟨-, -, -, h⟩ | ⟨-, -, h⟩ | ⟨-, -, -, -, rfl⟩ | ⟨-, -, -, -, h⟩ | ⟨-, -, -, rfl⟩
    | ⟨-, -, -, h⟩ | ⟨-, -, -, h⟩
  · exact advance (by simp) t h
  · exact advance (by simp) t h
  · exact branchTo _ _ rfl
  · exact returnFromException _ _ t h
  · exact branchTo _ _ rfl
  · exact advance (by simp) t h
  · exact advance (by simp) t h

theorem moveFromPsr (rd : RegNo) (p : Option Psr) : AdvancesIfSequential s (moveFromPsr rd p s) := by
  intro t ht
  obtain ⟨-, q, -, h⟩ := moveFromPsr_eq_next.mp ht
  exact advance (by simp) t h

theorem moveToCpsr (mask : FieldMask) (v : Word) : AdvancesIfSequential s (moveToCpsr mask v s) := by
  have hf : (if mask.flags then setFlagBits s v else s).pc = s.pc := by split <;> rfl
  unfold Machine.moveToCpsr
  dsimp only
  split
  · intro t ht
    obtain ⟨m, -, -, ht⟩ := writeControl_eq_next.mp ht
    exact advance (by exact hf) t ht
  · exact advance hf

theorem moveToSpsr (mask : FieldMask) (v : Word) : AdvancesIfSequential s (moveToSpsr mask v s) := by
  intro t ht
  obtain ⟨p, -, h⟩ := moveToSpsr_eq_next.mp ht
  exact advance (by simp) t h

theorem multiply (sb : Bool) (rd rs rm : RegNo) (acc : Word) :
    AdvancesIfSequential s (multiply sb rd rs rm acc s) := by
  refine .advance ?_
  cases sb <;> simp

theorem multiplyLong (signed acc sb : Bool) (rdHi rdLo rs rm : RegNo) :
    AdvancesIfSequential s (multiplyLong signed acc sb rdHi rdLo rs rm s) := by
  refine .refuseIf (.advance ?_) _ _
  cases sb <;> simp

theorem loadWordReg (priv pre up wb : Bool) (rn rd : RegNo) (off : Word) :
    AdvancesIfSequential s (loadWordReg priv pre up wb rn rd off s) := by
  refine .checkSingle (.refuseIf ?_ _ _) _ _ _ _ _ _
  split
  · exact .takeException _ _
  · exact .writeResult (by simp) _ _

theorem loadByteReg (priv pre up wb : Bool) (rn rd : RegNo) (off : Word) :
    AdvancesIfSequential s (loadByteReg priv pre up wb rn rd off s) := by
  refine .checkSingle ?_ _ _ _ _ _ _
  dsimp only
  split
  · exact .takeException _ _
  · exact .advance (by simp)

theorem storeWordReg (priv pre up wb : Bool) (rn rd : RegNo) (off : Word) :
    AdvancesIfSequential s (storeWordReg priv pre up wb rn rd off s) := by
  refine .checkSingle (.refuseIf ?_ _ _) _ _ _ _ _ _
  split
  · exact .takeException _ _
  · next t ht =>
    obtain ⟨-, rfl⟩ := storeWord_eq_some.mp ht
    exact .advance (by simp)

theorem storeByteReg (priv pre up wb : Bool) (rn rd : RegNo) (off : Word) :
    AdvancesIfSequential s (storeByteReg priv pre up wb rn rd off s) := by
  refine .checkSingle ?_ _ _ _ _ _ _
  dsimp only
  split
  · exact .takeException _ _
  · next t ht =>
    obtain ⟨-, rfl⟩ := storeByte_eq_some.mp ht
    exact .advance (by simp)

theorem loadExtendedReg (pre up wb : Bool) (rn rd : RegNo) (off : Word) (access : Word → Option Word) :
    AdvancesIfSequential s (loadExtendedReg pre up wb rn rd off access s) := by
  refine .checkHalf ?_ _ _ _ _ _
  dsimp only
  split
  · exact .takeException _ _
  · exact .advance (by simp)

theorem storeHalfReg (pre up wb : Bool) (rn rd : RegNo) (off : Word) :
    AdvancesIfSequential s (storeHalfReg pre up wb rn rd off s) := by
  refine .checkHalf (.refuseIf ?_ _ _) _ _ _ _ _
  split
  · exact .takeException _ _
  · next t ht =>
    obtain ⟨-, rfl⟩ := storeHalf_eq_some.mp ht
    exact .advance (by simp)

theorem blockStore (pre up wb : Bool) (rn : RegNo) (list : BitVec 16) (value : Word → RegNo → Word) :
    AdvancesIfSequential s (blockStore pre up wb rn list value s) := by
  unfold Machine.blockStore
  dsimp only
  split
  · exact .takeException _ _
  · refine .advance ?_
    cases wb <;> simp

theorem execLdm (c : Cond) (pre up wb : Bool) (rn : RegNo) (list : BitVec 16) :
    AdvancesIfSequential s (execLdm c pre up wb rn list s) := by
  refine .whenPassed (.checkBlock (.refuseIf (.blockLoad (fun base l => ?_) _ _ _ _ _) _ _) _ _) c
  dsimp only
  split
  · exact .branchTo _
  · exact .advance (by simp)

theorem execLdmPc (c : Cond) (pre up wb : Bool) (rn : RegNo) (list : BitVec 15) :
    AdvancesIfSequential s (execLdmPc c pre up wb rn list s) := by
  refine .whenPassed (.checkBlock (.refuseIf (.refuseIf (.blockLoad (fun base l => ?_) _ _ _ _ _) _ _) _ _) _ _) c
  dsimp only
  split
  · exact .branchTo _
  · exact .returnFromException _ _

theorem execLdmUser (c : Cond) (pre up wb : Bool) (rn : RegNo) (list : BitVec 15) :
    AdvancesIfSequential s (execLdmUser c pre up wb rn list s) :=
  .whenPassed (.checkBlock (.refuseIf (.refuseIf (.blockLoad (fun _ _ => .advance (by simp)) _ _ _ _ _) _ _) _ _) _ _) c

theorem execSwp (c : Cond) (rn rd rm : RegNo) : AdvancesIfSequential s (execSwp c rn rd rm s) := by
  refine .whenPassed (.refuseIf ?_ _ _) c
  dsimp only
  split
  · exact .takeException _ _
  · split
    · exact .takeException _ _
    · next t ht =>
      obtain ⟨-, rfl⟩ := storeWord_eq_some.mp ht
      exact .advance (by simp)

theorem execSwpb (c : Cond) (rn rd rm : RegNo) : AdvancesIfSequential s (execSwpb c rn rd rm s) := by
  refine .whenPassed (.refuseIf ?_ _ _) c
  dsimp only
  split
  · exact .takeException _ _
  · split
    · exact .takeException _ _
    · next t ht =>
      obtain ⟨-, rfl⟩ := storeByte_eq_some.mp ht
      exact .advance (by simp)

theorem offerUnsupported : AdvancesIfSequential s (offerUnsupported s) := .offer fun _ _ _ => .refused _

theorem execMrc (c : Cond) (opc : BitVec 3) (crn rd : RegNo) (cp : BitVec 4) (info : BitVec 3) (crm : RegNo) :
    AdvancesIfSequential s (execMrc c opc crn rd cp info crm s) := by
  refine .whenPassed (.offer fun d u hu => .refuseIf ?_ _ _) c
  dsimp only
  split
  · exact .advance hu
  · exact .advance ((writeReg_pc ..).trans hu)

theorem execMcr (c : Cond) (opc : BitVec 3) (crn rd : RegNo) (cp : BitVec 4) (info : BitVec 3) (crm : RegNo) :
    AdvancesIfSequential s (execMcr c opc crn rd cp info crm s) :=
  .whenPassed (.refuseIf (.offer fun _ u hu => .refuseIf (.advance (by exact hu)) _ _) _ _) c

theorem undefinedBtoE : AdvancesIfSequential s (undefinedBtoE s) := .refuseIf (.takeException _ _) _ _

end

end AdvancesIfSequential

/-- An instruction goes on to a sequential fetch by `advance` alone. The case of a constructor names the operation its
meaning calls. -/
theorem exec_advancesIfSequential (i : Instr) (s : State) : AdvancesIfSequential s (exec i s) := by
  cases i
  case b | bl => exact .whenPassed (.branchTo _) _
  case andImm | eorImm | subImm | rsbImm | addImm | adcImm | sbcImm | rscImm | tstImm | teqImm | cmpImm |
      cmnImm | orrImm | movImm | bicImm | mvnImm | andShiftImm | eorShiftImm | subShiftImm | rsbShiftImm | addShiftImm |
      adcShiftImm | sbcShiftImm | rscShiftImm | tstShiftImm | teqShiftImm | cmpShiftImm | cmnShiftImm | orrShiftImm |
      movShiftImm | bicShiftImm | mvnShiftImm | andShiftReg | eorShiftReg | subShiftReg | rsbShiftReg | addShiftReg |
      adcShiftReg | sbcShiftReg | rscShiftReg | tstShiftReg | teqShiftReg | cmpShiftReg | cmnShiftReg | orrShiftReg |
      movShiftReg | bicShiftReg | mvnShiftReg =>
    exact .whenPassed (.refuseIf (.finishAlu s _ _ _ _) _ _) _
  case mrsCpsr | mrsSpsr => exact .whenPassed (.moveFromPsr s _ _) _
  case msrCpsrImm => exact .whenPassed (.moveToCpsr s _ _) _
  case msrCpsrReg => exact .whenPassed (.refuseIf (.moveToCpsr s _ _) _ _) _
  case msrSpsrImm => exact .whenPassed (.moveToSpsr s _ _) _
  case msrSpsrReg => exact .whenPassed (.refuseIf (.moveToSpsr s _ _) _ _) _
  case mul | mla => exact .whenPassed (.refuseIf (.multiply s _ _ _ _ _) _ _) _
  case umull | umlal | smull | smlal => exact .whenPassed (.multiplyLong s _ _ _ _ _ _ _) _
  case ldrImmPre | ldrImmPost | ldrtImm => exact .whenPassed (.loadWordReg s _ _ _ _ _ _ _) _
  case ldrRegPre | ldrRegPost | ldrtReg => exact .whenPassed (.checkOffset (.loadWordReg s _ _ _ _ _ _ _) _ _ _) _
  case ldrbImmPre | ldrbImmPost | ldrbtImm => exact .whenPassed (.loadByteReg s _ _ _ _ _ _ _) _
  case ldrbRegPre | ldrbRegPost | ldrbtReg => exact .whenPassed (.checkOffset (.loadByteReg s _ _ _ _ _ _ _) _ _ _) _
  case strImmPre | strImmPost | strtImm => exact .whenPassed (.storeWordReg s _ _ _ _ _ _ _) _
  case strRegPre | strRegPost | strtReg => exact .whenPassed (.checkOffset (.storeWordReg s _ _ _ _ _ _ _) _ _ _) _
  case strbImmPre | strbImmPost | strbtImm => exact .whenPassed (.storeByteReg s _ _ _ _ _ _ _) _
  case strbRegPre | strbRegPost | strbtReg => exact .whenPassed (.checkOffset (.storeByteReg s _ _ _ _ _ _ _) _ _ _) _
  case ldrhImmPre | ldrhImmPost | ldrsbImmPre | ldrsbImmPost | ldrshImmPre | ldrshImmPost =>
    exact .whenPassed (.loadExtendedReg s _ _ _ _ _ _ _) _
  case ldrhRegPre | ldrhRegPost | ldrsbRegPre | ldrsbRegPost | ldrshRegPre | ldrshRegPost =>
    exact .whenPassed (.checkOffset (.loadExtendedReg s _ _ _ _ _ _ _) _ _ _) _
  case strhImmPre | strhImmPost => exact .whenPassed (.storeHalfReg s _ _ _ _ _ _) _
  case strhRegPre | strhRegPost => exact .whenPassed (.checkOffset (.storeHalfReg s _ _ _ _ _ _) _ _ _) _
  case ldm => exact .execLdm s _ _ _ _ _ _
  case ldmPc => exact .execLdmPc s _ _ _ _ _ _
  case ldmUser => exact .execLdmUser s _ _ _ _ _ _
  case stm => exact .whenPassed (.checkBlock (.refuseIf (.blockStore s _ _ _ _ _ _) _ _) _ _) _
  case stmUser =>
    exact .whenPassed (.checkBlock (.refuseIf (.refuseIf (.refuseIf (.blockStore s _ _ _ _ _ _) _ _) _ _) _ _) _ _) _
  case swp => exact .execSwp s _ _ _ _
  case swpb => exact .execSwpb s _ _ _ _
  case swi | imb | imbRange => exact .whenPassed .softwareInterrupt _
  case cdp | ldc | stc => exact .whenPassed (.offerUnsupported s) _
  case mrc => exact .execMrc s _ _ _ _ _ _ _
  case mcr => exact .execMcr s _ _ _ _ _ _ _
  case undefinedA => exact .whenPassed (.takeException _ _) _
  case undefinedB1 | undefinedB2 | undefinedB3 | undefinedB4 | undefinedB5 | undefinedC | undefinedD1 |
      undefinedD2 | undefinedD3 | undefinedE1 | undefinedE2 | undefinedE3 | undefinedE4 =>
    exact .whenPassed (.undefinedBtoE s) _

/-! ### The obligations -/

/-- Settles O5: an instruction that fails is `advance`, and so is the end of one that goes on sequentially. -/
theorem failedConditionOnlyAdvances : Obligations.FailedConditionOnlyAdvances := by
  constructor
  · intro i s hc
    rw [exec_of_failed hc]
    exact ⟨advance_of_fits, advance_of_not_fits⟩
  · intro i s t ht hseq
    obtain ⟨u, hpc, hu⟩ := exec_advancesIfSequential i s t ht hseq
    have hfits := fits_of_advance hu
    obtain ⟨-, rfl⟩ := advance_eq_next.mp hu
    rw [← hpc]
    exact ⟨rfl, hfits⟩

/-- Settles O4: a condition with an even code is the test of bits 3:1, one with an odd code its inverse. (In this
namespace the bare name is the model's function.) -/
theorem Conditions.conditionPassed : Obligations.ConditionPassed := by
  refine ⟨fun c p => ?_, fun _ => decode_of_reservedCondition, fun _ => rfl,
    fun c s ho => ⟨fun hc => ?_, fun hc => ?_⟩⟩
  · cases c
    case eq | cs | mi | vs | hi | ge | gt | al => exact (Bool.bne_false _).symm
    case ne | cc | pl | vc | lt => exact (Bool.bne_true _).symm
    case ls =>
      calc (!p.c || p.z) = !(p.c && !p.z) := by simp
        _ = _ := (Bool.bne_true _).symm
    case le =>
      calc (p.z || p.n != p.v) = !(!p.z && p.n == p.v) := by cases p.z <;> rfl
        _ = _ := (Bool.bne_true _).symm
  · exact ⟨execDecoded_reserved_passed ho hc .psrTransfer, execDecoded_reserved_passed ho hc .swap,
      execDecoded_reserved_passed ho hc .halfword⟩
  · exact execDecoded_reserved_failed ho hc

/-- Settles O57: the three outcomes of the instruction, carried through the cycle. -/
theorem stepRunsDecoded : Obligations.StepRunsDecoded := by
  intro s i h0 ha hs ho hd
  have hstep : step s = endStepOutcome s (expireImbOutcome s (exec i s)) := by
    rw [step_of_not_inReset h0, runInstruction_of_fetched ha hs, hd, execDecoded_instr_of_not_owed ho]
  refine ⟨fun t ht => ?_, fun f hf => ?_, fun r hr => ?_⟩
  · rw [hstep, ht]; rfl
  · rw [hstep, hf]; rfl
  · rw [hstep, hr]; rfl

end Sys2Proof.Machine
end

section
/-! SUPPORT. Branches (spec/41_branch.md R241, R242): where a jump goes, what it keeps, and what BL leaves in R14. -/

namespace Sys2Proof.Machine

open Sys2Proof.Claims

/-! ### The target -/

/-- The model clears bits of the address where the rule rounds it down (R42, R43). -/
theorem pcOf_eq_pcAfter (m : Mode) (a : Word) : pcOf m a = pcAfter m a := by
  rw [pcAfter, ← pcOf_toNat, BitVec.ofNat_toNat, BitVec.setWidth_eq]

/-- Shifting left two bits after the sign extension multiplies the signed offset by four (R241). -/
theorem branchOffset_eq (offset : BitVec 24) : branchOffset offset = BitVec.ofInt 32 (4 * offset.toInt) := by
  rw [branchOffset, BitVec.shiftLeft_eq_mul_twoPow, BitVec.signExtend, BitVec.mul_comm]
  exact (BitVec.ofInt_mul 4 offset.toInt).symm

/-- The sum modulo 2^32 of words is the word of the sum in the integers (R241, D11). -/
theorem branchTarget_eq (s : State) (offset : BitVec 24) :
    branchTarget s offset = BitVec.ofInt 32 (s.pc.toNat + 8 + 4 * offset.toInt) := by
  have hpc : BitVec.ofInt 32 s.pc.toNat = s.pc := by simp
  rw [branchTarget, pcOperand, branchOffset_eq, BitVec.ofInt_add, BitVec.ofInt_add, hpc]
  rfl

/-! ### What a jump keeps -/

section
variable {s u : State}

theorem jumpFrame_refl (s : State) : JumpFrame s s :=
  ⟨rfl, rfl, fun _ => rfl, ⟨rfl, rfl, rfl, rfl, rfl, rfl, rfl⟩, ⟨rfl, rfl, rfl⟩, rfl, rfl, rfl⟩

theorem jumpFrame_writeReg (s : State) (i : RegNo) (v : Word) : JumpFrame s (writeReg s i v) := by
  have hmem : MemKept s (writeReg s i v) := byteAt_congr (writeReg_mem s i v)
  simp [JumpFrame, hmem, RestKept, InputsKept, CoprocKept, RecordsKept]

/-- The jump itself moves the PC only, which is not of the frame. -/
theorem jumpFrame_branchTo (h : JumpFrame s u) (a : Word) : JumpFrame s (branchTo u a) := h

theorem getPhys_branchTo (s : State) (a : Word) (r : PhysReg) : getPhys (branchTo s a) r = getPhys s r :=
  getPhys_congr (branchTo_regs s a) r

theorem regsKeptBut_branchTo {l : List (Option PhysReg)} (h : RegsKeptBut s u l) (a : Word) :
    RegsKeptBut s (branchTo u a) l := fun r hr => (getPhys_branchTo u a r).trans (h r hr)

theorem holds_branchTo {i : RegNo} {v : Word} (h : Holds s u i v) (a : Word) : Holds s (branchTo u a) i v := by
  obtain ⟨r, hr, hv⟩ := h
  exact ⟨r, hr, (getPhys_branchTo u a r).trans hv⟩

theorem branchTo_branchTarget_pc (h : u.cpsr = s.cpsr) (offset : BitVec 24) :
    (branchTo u (branchTarget s offset)).pc
      = pcAfter s.cpsr.mode (BitVec.ofInt 32 (s.pc.toNat + 8 + 4 * offset.toInt)) := by
  rw [branchTo_pc, pcOf_eq_pcAfter, branchTarget_eq, h]

end

/-! ### The link -/

/-- The instruction after the branch is one word before the PC as an operand (R242). -/
theorem pcOperand_sub_four (s : State) : pcOperand s - 4 = s.pc + 4 := by
  rw [pcOperand]
  bv_omega

theorem linkValue_of_not_is26 {s : State} (h : is26 s.cpsr.mode = false) : linkValue s = s.pc + 4 := by
  rw [linkValue, h, pcOperand_sub_four]
  rfl

/-- Bits 25:2 of the link are the next address in every mode; the free bits of a 26-bit mode lie outside them (D9). -/
theorem linkValue_extractLsb' (s : State) :
    (linkValue s).extractLsb' 2 24 = (s.pc + 4).extractLsb' 2 24 := by
  cases h : is26 s.cpsr.mode
  case false => rw [linkValue_of_not_is26 h]
  case true =>
    have hkept : (0x03FFFFFC : Word).extractLsb' 2 24 = BitVec.allOnes 24 := by decide
    have hfree : (0xFC000003 : Word).extractLsb' 2 24 = 0#24 := by decide
    simp only [linkValue, h, if_true, pcOperand_sub_four, BitVec.extractLsb'_or, BitVec.extractLsb'_and, hkept, hfree,
      BitVec.and_allOnes, BitVec.and_zero, BitVec.or_zero]

/-! ### The instructions -/

theorem exec_b_of_passed {c : Cond} {s : State} (h : conditionPassed c s.cpsr = true) (offset : BitVec 24) :
    exec (.b c offset) s = .next (branchTo s (branchTarget s offset)) := whenPassed_pass h

theorem exec_bl_of_passed {c : Cond} {s : State} (h : conditionPassed c s.cpsr = true) (offset : BitVec 24) :
    exec (.bl c offset) s = .next (branchTo (writeReg s 14 (linkValue s)) (branchTarget s offset)) := whenPassed_pass h

/-- Settles O16. -/
theorem branch : Obligations.Branch := by
  intro c offset s hc
  exact ⟨_, exec_b_of_passed hc offset, branchTo_branchTarget_pc rfl offset, rfl,
    regsKeptBut_branchTo (fun _ _ => rfl) _, jumpFrame_branchTo (jumpFrame_refl s) _⟩

/-- Settles O17: the link is written first, and the jump keeps what R14 then holds. -/
theorem branchWithLink : Obligations.BranchWithLink := by
  intro c offset s hc
  have hcpsr : (writeReg s 14 (linkValue s)).cpsr = s.cpsr := writeReg_cpsr s 14 (linkValue s)
  have h14 : (14 : RegNo) ≠ 15 := by decide
  exact ⟨_, exec_bl_of_passed hc offset, branchTo_branchTarget_pc hcpsr offset, hcpsr,
    regsKeptBut_branchTo (regsKeptBut_writeReg _ h14) _, jumpFrame_branchTo (jumpFrame_writeReg s 14 _) _,
    linkValue s, holds_branchTo (holds_writeReg _ h14) _, linkValue_of_not_is26, linkValue_extractLsb' s⟩

end Sys2Proof.Machine
end

section
/-! SUPPORT. The shifter and the immediate operand (spec/42_data_processing.md R259 to R266): rotations and the shifts that
bring in copies of one bit, in the terms of the rules. -/

namespace Sys2Proof.Machine

open Sys2Proof.Claims

/-! ### Rotations and sign copies -/

theorem rotatedRight_rotateRight (m : Word) (n : Nat) : RotatedRight (m.rotateRight n) m n := by
  intro k hk
  rw [BitVec.getLsbD_rotateRight]
  by_cases h : k < 32 - n % 32
  · rw [decide_eq_true h, cond_true]
    exact congrArg m.getLsbD (by omega)
  · rw [decide_eq_false h, cond_false, decide_eq_true hk, Bool.true_and]
    exact congrArg m.getLsbD (by omega)

/-- Thirty-one places to the right nothing is left but copies of bit 31 (R262). -/
theorem sshiftRight_thirtyOne (m : Word) : m.sshiftRight 31 = if m.getLsbD 31 then 0xFFFFFFFF else 0 := by
  apply BitVec.eq_of_getLsbD_eq
  intro i hi
  have hbit : (m.sshiftRight 31).getLsbD i = m.getLsbD 31 := by
    rw [BitVec.getLsbD_sshiftRight, BitVec.msb_eq_getLsbD_last, decide_eq_false (by omega), Bool.not_false,
      Bool.true_and, ite_eq_right_iff]
    exact fun h => congrArg m.getLsbD (by omega)
  rw [hbit]
  cases m.getLsbD 31 with
  | false => exact BitVec.getLsbD_zero.symm
  | true => exact (BitVec.getLsbD_allOnes.trans (decide_eq_true hi)).symm

/-- RRX: the old C above the upper 31 bits of the register (R264). -/
theorem shiftByImmediate_ror_zero_toNat (m : Word) (c : Bool) :
    (shiftByImmediate .ror m 0 c).value.toNat = c.toNat * 2 ^ 31 + m.toNat / 2 := by
  have hc : ((BitVec.ofBool c).setWidth 32 <<< 31).toNat = 2 ^ 31 * c.toNat := by cases c <;> decide
  have hlow : m.toNat / 2 < 2 ^ 31 := by omega
  calc (shiftByImmediate .ror m 0 c).value.toNat
      = ((BitVec.ofBool c).setWidth 32 <<< 31).toNat ||| (m >>> 1).toNat := BitVec.toNat_or _ _
    _ = 2 ^ 31 * c.toNat ||| m.toNat / 2 := by rw [hc, BitVec.toNat_ushiftRight, Nat.shiftRight_one]
    _ = c.toNat * 2 ^ 31 + m.toNat / 2 := by rw [← Nat.two_pow_add_eq_or_of_lt hlow, Nat.mul_comm]

/-- With an amount from 1 to 31 the two sources of the amount agree (R265). -/
theorem shiftByRegister_eq_shiftByImmediate {n : Nat} (h1 : 1 ≤ n) (h31 : n ≤ 31) (ty : ShiftType) (m : Word)
    (c : Bool) : shiftByRegister ty m n c = shiftByImmediate ty m n c := by
  have h0 : n ≠ 0 := by omega
  have h32 : n < 32 := by omega
  have hlow : (n - 1) % 32 = n - 1 := Nat.mod_eq_of_lt (by omega)
  cases ty with
  | ror => simp only [shiftByRegister, shiftByImmediate, if_neg h0, hlow, Nat.sub_add_cancel h1]
  | _ => simp only [shiftByRegister, shiftByImmediate, if_neg h0, if_pos h32]

/-- A rotation by more than 32 is the rotation by its remainder, counted from 1 to 32 (R265). -/
theorem shiftByRegister_ror_reduce {n : Nat} (h : n ≠ 0) (m : Word) (c : Bool) :
    shiftByRegister .ror m n c = shiftByRegister .ror m ((n - 1) % 32 + 1) c := by
  have hmod : ((n - 1) % 32 + 1 - 1) % 32 = (n - 1) % 32 := by omega
  simp only [shiftByRegister, if_neg h, if_neg (Nat.succ_ne_zero _), hmod]

/-- A logical shift by more than the width leaves neither a value nor a carry (R265). -/
theorem shiftByRegister_logical_of_gt {ty : ShiftType} (hty : ty = .lsl ∨ ty = .lsr) {n : Nat} (h : 33 ≤ n) (m : Word)
    (c : Bool) : shiftByRegister ty m n c = ⟨0, false⟩ := by
  rcases hty with rfl | rfl <;>
    simp only [shiftByRegister, if_neg (show n ≠ 0 by omega), if_neg (show ¬ n < 32 by omega),
      if_neg (show n ≠ 32 by omega)]

theorem shiftByRegister_asr_of_ge {n : Nat} (h : 32 ≤ n) (m : Word) (c : Bool) :
    shiftByRegister .asr m n c = ⟨if m.getLsbD 31 then 0xFFFFFFFF else 0, m.getLsbD 31⟩ := by
  simp only [shiftByRegister, if_neg (show n ≠ 0 by omega), if_neg (show ¬ n < 32 by omega), sshiftRight_thirtyOne]

/-- A rotation by a whole turn moves nothing (R265). -/
theorem rotateRight_thirtyTwo (m : Word) : m.rotateRight 32 = m :=
  BitVec.eq_of_getLsbD_eq fun k hk =>
    (rotatedRight_rotateRight m 32 k hk).trans (congrArg m.getLsbD (by omega))

theorem readsRn15_eq_false {op : AluOp} {rn : RegNo} (h : readsRn op → rn ≠ 15) : readsRn15 op rn = false :=
  Bool.eq_false_iff.mpr fun e =>
    let ⟨hop, h15⟩ := readsRn15_eq_true.mp e
    h hop h15

/-- The amount is the bottom byte of the register (R265). -/
theorem aluShiftReg_of_readable {op : AluOp} {rn rs rm : RegNo} {ty : ShiftType} {s : State}
    (h : Readable s op rn (.shiftReg rs ty rm)) (sb : Bool) (rd : RegNo) :
    aluShiftReg op sb rn rd rs ty rm s = dataProcessing op sb rn rd (op2Value s (.shiftReg rs ty rm)) s := by
  obtain ⟨hrs, hrm, hrn⟩ := h
  have hreads : (rs == 15 || rm == 15 || readsRn15 op rn) = false := by
    rw [beq_false_of_ne hrs, beq_false_of_ne hrm, readsRn15_eq_false hrn]
    rfl
  have hbyte : ((readReg s .s rs).extractLsb' 0 8).toNat = (readReg s .s rs).toNat % 256 := by
    rw [BitVec.extractLsb'_toNat, Nat.shiftRight_zero]
  rw [aluShiftReg, hreads, refuseIf_false, hbyte]
  rfl

/-! ### The obligations -/

/-- Settles O13: an arithmetic shift is a floored division and a rotation `rotatedRight_rotateRight`; the other clauses are
the branches of the shifter. (In this namespace the bare name is the model's function.) -/
theorem Shifter.shiftByImmediate : Obligations.ShiftByImmediate := by
  intro m n c
  refine ⟨rfl, rfl, congrArg (ShifterOut.mk · _) (sshiftRight_thirtyOne m), shiftByImmediate_ror_zero_toNat m c, rfl,
    fun h1 h31 => ?_⟩
  have h0 : n ≠ 0 := by omega
  simp only [Machine.shiftByImmediate, if_neg h0]
  refine ⟨?_, trivial, ?_, trivial, ?_, trivial, rotatedRight_rotateRight m n, trivial⟩
  · rw [BitVec.toNat_shiftLeft, Nat.shiftLeft_eq]
  · rw [BitVec.toNat_ushiftRight, Nat.shiftRight_eq_div_pow]
  · rw [BitVec.toInt_sshiftRight, Int.shiftRight_eq_div_pow]
    norm_cast

/-- Settles O14, row by row of the table of R265. -/
theorem Shifter.shiftByRegister : Obligations.ShiftByRegister := by
  intro m n c
  refine ⟨fun _ => rfl, fun h1 h31 ty => shiftByRegister_eq_shiftByImmediate h1 h31 ty m c, rfl, rfl,
    fun h => ⟨shiftByRegister_logical_of_gt (.inl rfl) h m c, shiftByRegister_logical_of_gt (.inr rfl) h m c⟩,
    fun h => shiftByRegister_asr_of_ge h m c, ?_, ?_, ?_⟩
  · exact congrArg (ShifterOut.mk · _) (rotateRight_thirtyTwo m)
  · exact fun h => shiftByRegister_ror_reduce (by omega) m c
  · exact fun op sb rn rd rs rm ty s h => aluShiftReg_of_readable h sb rd

/-- Settles O15. -/
theorem Shifter.immediateOperand : Obligations.ImmediateOperand := by
  intro r k c
  have hk : BitVec.ofNat 32 k.toNat = k.setWidth 32 := BitVec.ofNat_toNat 32 k
  refine ⟨hk ▸ rotatedRight_rotateRight _ _, fun h => if_pos h, fun h => ?_⟩
  exact (if_neg h).trans (BitVec.msb_eq_getLsbD_last _)

end Sys2Proof.Machine
end

section
/-! SUPPORT. The results and the flags of the sixteen operations (spec/42_data_processing.md R253, R254, R267 to R282): the
model adds complements where the rules subtract. -/

namespace Sys2Proof.Machine

open Sys2Proof.Claims

/-! ### AddWithCarry -/

section
variable (p q : Word) (cin : Bool)

theorem addWithCarry_value : (addWithCarry p q cin).value = p + q + BitVec.ofNat 32 cin.toNat := by
  rw [addWithCarry, BitVec.ofNat_add, BitVec.ofNat_add, BitVec.ofNat_toNat, BitVec.ofNat_toNat, BitVec.setWidth_eq,
    BitVec.setWidth_eq]

theorem addWithCarry_carry : (addWithCarry p q cin).carry = true ↔ 2 ^ 32 ≤ p.toNat + q.toNat + cin.toNat :=
  decide_eq_true_iff

/-- An integer is out of the signed range exactly when reduction into that range changes it. -/
theorem overflows_iff_ne_bmod (x : Int) : Overflows x ↔ x ≠ x.bmod (2 ^ 32) := by
  rw [Overflows, Int.bmod]
  split <;> omega

/-- The value read signed is the exact signed sum, reduced. -/
theorem addWithCarry_value_toInt :
    (addWithCarry p q cin).value.toInt = (p.toInt + q.toInt + cin.toNat).bmod (2 ^ 32) := by
  have hc : (BitVec.ofNat 32 cin.toNat).toInt = cin.toNat := by cases cin <;> decide
  rw [addWithCarry_value, BitVec.toInt_add, BitVec.toInt_add, hc, Int.bmod_add_bmod]

theorem addWithCarry_overflow :
    (addWithCarry p q cin).overflow = true ↔ Overflows (p.toInt + q.toInt + cin.toNat) := by
  rw [overflows_iff_ne_bmod, ← addWithCarry_value_toInt]
  exact decide_eq_true_iff

end

/-! ### Complements -/

theorem toInt_complement (x : Word) : (~~~x).toInt = - x.toInt - 1 := by
  have hx := x.isLt
  rw [BitVec.toInt_eq_toNat_cond, BitVec.toInt_eq_toNat_cond, BitVec.toNat_not]
  split <;> split <;> omega

/-! ### The results -/

theorem aluEval_value (op : AluOp) (a b : Word) (cin sc oldV : Bool) :
    (aluEval op a b cin sc oldV).value = aluValue op a b cin := by
  have hsub : ∀ x y : Word, (addWithCarry x (~~~y) true).value = x - y := fun x y => by
    rw [addWithCarry_value]
    bv_omega
  have hsbc : ∀ x y : Word, (addWithCarry x (~~~y) cin).value = x - y + BitVec.ofNat 32 cin.toNat - 1 := fun x y => by
    rw [addWithCarry_value]
    bv_omega
  cases op with
  | sub | cmp => exact hsub a b
  | rsb => exact hsub b a
  | sbc => exact hsbc a b
  | rsc => exact hsbc b a
  | add | cmn => exact (addWithCarry_value a b false).trans (BitVec.add_zero _)
  | adc => exact addWithCarry_value a b cin
  | and | eor | tst | teq | orr | mov | bic | mvn => rfl

/-! ### The flags -/

/-- The logical class takes C from the shifter and keeps V (R253). -/
theorem aluEval_logical {op : AluOp} (h : logical op) (a b : Word) (cin sc oldV : Bool) :
    (aluEval op a b cin sc oldV).carry = sc ∧ (aluEval op a b cin sc oldV).overflow = oldV := by
  cases op with
  | and | eor | tst | teq | orr | mov | bic | mvn => exact ⟨rfl, rfl⟩
  | sub | rsb | add | adc | sbc | rsc | cmp | cmn => simp [logical] at h

/-- A sum with a complement carries out exactly when the difference needs no borrow (R254). -/
theorem addWithCarry_complement_carry (x y : Word) (cin : Bool) :
    (addWithCarry x (~~~y) cin).carry = true ↔ y.toNat + 1 ≤ x.toNat + cin.toNat := by
  rw [addWithCarry_carry, BitVec.toNat_not]
  omega

theorem addWithCarry_complement_overflow (x y : Word) (cin : Bool) :
    (addWithCarry x (~~~y) cin).overflow = true ↔ Overflows (x.toInt - y.toInt + cin.toNat - 1) := by
  rw [addWithCarry_overflow, toInt_complement]
  exact Iff.of_eq (congrArg Overflows (by omega))

/-- The arithmetic class takes C and V from the exact sum (R254). -/
theorem aluEval_arithmetic {op : AluOp} (h : ¬ logical op) (a b : Word) (cin sc oldV : Bool) :
    ((aluEval op a b cin sc oldV).carry = true ↔ aluCarry op a b cin)
      ∧ ((aluEval op a b cin sc oldV).overflow = true ↔ Overflows (exactSigned op a b cin)) := by
  have hsub : ∀ x y : Word, ((addWithCarry x (~~~y) true).carry = true ↔ y.toNat ≤ x.toNat)
      ∧ ((addWithCarry x (~~~y) true).overflow = true ↔ Overflows (x.toInt - y.toInt)) := fun x y => by
    have hx : x.toInt - y.toInt + (true.toNat : Int) - 1 = x.toInt - y.toInt := Int.add_sub_cancel _ 1
    rw [addWithCarry_complement_carry, addWithCarry_complement_overflow, hx]
    exact ⟨Nat.succ_le_succ_iff, Iff.rfl⟩
  have hadd : ((addWithCarry a b false).carry = true ↔ 2 ^ 32 ≤ a.toNat + b.toNat)
      ∧ ((addWithCarry a b false).overflow = true ↔ Overflows (a.toInt + b.toInt)) :=
    ⟨addWithCarry_carry a b false, by simpa using addWithCarry_overflow a b false⟩
  cases op with
  | and | eor | tst | teq | orr | mov | bic | mvn => simp [logical] at h
  | sub | cmp => exact hsub a b
  | rsb => exact hsub b a
  | sbc => exact ⟨addWithCarry_complement_carry a b cin, addWithCarry_complement_overflow a b cin⟩
  | rsc => exact ⟨addWithCarry_complement_carry b a cin, addWithCarry_complement_overflow b a cin⟩
  | add | cmn => exact hadd
  | adc => exact ⟨addWithCarry_carry a b cin, addWithCarry_overflow a b cin⟩

theorem setAluFlags_cpsr_n (s : State) (r : AluResult) : (setAluFlags s r).cpsr.n = r.value.getLsbD 31 :=
  BitVec.msb_eq_getLsbD_last r.value

theorem setAluFlags_cpsr_z (s : State) (r : AluResult) : (setAluFlags s r).cpsr.z = true ↔ r.value = 0 := beq_iff_eq

/-- A state whose CPSR is the one `setAluFlags` leaves has the flags of R253 and R254. -/
theorem flagsSet_of_cpsr {s t : State} {op : AluOp} {a : Word} {b : ShifterOut}
    (h : t.cpsr = (setAluFlags s (aluEval op a b.value s.cpsr.c b.carry s.cpsr.v)).cpsr) : FlagsSet s t op a b := by
  have hv := aluEval_value op a b.value s.cpsr.c b.carry s.cpsr.v
  rw [FlagsSet, h, setAluFlags_cpsr_n, setAluFlags_cpsr_z, hv]
  exact ⟨rfl, Iff.rfl, fun hl => aluEval_logical hl .., fun hl => aluEval_arithmetic hl .., rfl, rfl, rfl⟩

end Sys2Proof.Machine
end

section
/-! SUPPORT. The data processing instructions (spec/42_data_processing.md R252 to R258, R267 to R285): all the operand forms
are one operation on Rn and a second operand, and wherever the result goes, the rest of the state is kept. -/

namespace Sys2Proof.Machine

open Sys2Proof.Claims

/-! ### The operand forms -/

/-- The result of an operation on Rn and a second operand. -/
def dpResult (s : State) (op : AluOp) (rn : RegNo) (o : Op2) : AluResult :=
  aluEval op (readReg s .n rn) (op2Value s o).value s.cpsr.c (op2Value s o).carry s.cpsr.v

theorem dpResult_value (s : State) (op : AluOp) (rn : RegNo) (o : Op2) :
    (dpResult s op rn o).value = aluValue op (readReg s .n rn) (op2Value s o).value s.cpsr.c := aluEval_value ..

theorem exec_dp_shiftReg (op : AluOp) (c : Cond) (sb : Bool) (rn rd rs : RegNo) (ty : ShiftType) (rm : RegNo)
    (s : State) :
    exec (dp op c sb rn rd (.shiftReg rs ty rm)) s
      = whenPassed c s (aluShiftReg op (op.isTest || sb) rn rd rs ty rm s) := by
  cases op <;> rfl

/-- R15 is not read where the spec does not let it be (R43). -/
theorem readsPc26_eq_false {s : State} {b : Bool} (h : is26 s.cpsr.mode = true → b = false) :
    readsPc26 s b = false := by
  cases h26 : is26 s.cpsr.mode with
  | false => rw [readsPc26, h26, Bool.false_and]
  | true => rw [readsPc26, h h26, Bool.and_false]

/-- In each of its forms an instruction whose condition passes, and whose reads are allowed, is one operation on its second
operand (R250, R251). -/
theorem exec_dp_of_readable {op : AluOp} {c : Cond} {rn : RegNo} {o : Op2} {s : State}
    (hc : conditionPassed c s.cpsr = true) (h : Readable s op rn o) (sb : Bool) (rd : RegNo) :
    exec (dp op c sb rn rd o) s = finishAlu op (op.isTest || sb) rd (dpResult s op rn o) s := by
  cases o with
  | imm r k =>
    have hread := readsPc26_eq_false fun h26 => readsRn15_eq_false (h h26)
    rw [exec_dp_imm, whenPassed_pass hc, aluImm, hread, refuseIf_false]
    rfl
  | shiftImm n ty rm =>
    have hread : readsPc26 s (readsRn15 op rn || rm == 15) = false := readsPc26_eq_false fun h26 => by
      obtain ⟨hrm, hrn⟩ := h h26
      rw [readsRn15_eq_false hrn, beq_false_of_ne hrm, Bool.or_false]
    rw [exec_dp_shiftImm, whenPassed_pass hc, aluShiftImm, hread, refuseIf_false]
    rfl
  | shiftReg rs ty rm =>
    rw [exec_dp_shiftReg, whenPassed_pass hc, aluShiftReg_of_readable h]
    rfl

theorem isTest_eq_true {op : AluOp} : op.isTest = true ↔ op ∈ [AluOp.tst, .teq, .cmp, .cmn] := by
  cases op <;> decide

theorem isTest_eq_false {op : AluOp} : op.isTest = false ↔
    op ∈ [AluOp.and, .eor, .sub, .rsb, .add, .adc, .sbc, .rsc, .orr, .mov, .bic, .mvn] := by
  cases op <;> decide

/-! ### Where the result goes -/

section
variable {op : AluOp} (r : AluResult) (s : State)

theorem finishAlu_test (h : op.isTest = true) (sb : Bool) {rd : RegNo} (hrd : rd ≠ 15) :
    finishAlu op sb rd r s = advance (setAluFlags s r) := by
  rw [finishAlu, if_pos h, if_neg hrd]

theorem finishAlu_test_fifteen (h : op.isTest = true) (sb : Bool) :
    finishAlu op sb 15 r s
      = if is26 s.cpsr.mode then advance (setPsr26 s r.value) else .refused .testPIn32BitMode := by
  rw [finishAlu, if_pos h, if_pos rfl]

theorem finishAlu_register (h : op.isTest = false) (sb : Bool) {rd : RegNo} (hrd : rd ≠ 15) :
    finishAlu op sb rd r s = advance (writeReg (if sb then setAluFlags s r else s) rd r.value) := by
  rw [finishAlu, if_neg (by simp [h]), if_neg hrd]
  cases sb <;> rfl

theorem finishAlu_jump (h : op.isTest = false) : finishAlu op false 15 r s = .next (branchTo s r.value) := by
  rw [finishAlu, if_neg (by simp [h]), if_pos rfl]
  rfl

theorem finishAlu_fifteen (h : op.isTest = false) :
    finishAlu op true 15 r s
      = if is26 s.cpsr.mode then .next (branchTo (setPsr26 s r.value) r.value)
        else returnFromException s r.value .returnWithoutSpsr := by
  rw [finishAlu, if_neg (by simp [h]), if_pos rfl, if_pos rfl]

end

/-! ### What a change of the CPSR keeps -/

section
variable (s : State) (p : Cpsr)

theorem branchTo_withCpsr (a : Word) :
    (branchTo { s with cpsr := p } a).pc = pcAfter p.mode a ∧ RegsKeptBut s (branchTo { s with cpsr := p } a) []
      ∧ JumpFrame s (branchTo { s with cpsr := p } a) :=
  ⟨pcOf_eq_pcAfter p.mode a, fun _ _ => getPhys_congr rfl _, jumpFrame_refl s⟩

/-- The next instruction after a change of the CPSR alone. -/
theorem advance_withCpsr (h : ¬ (is26 p.mode = true ∧ s.pc = 0x03FFFFFC)) :
    ∃ t, advance { s with cpsr := p } = .next t ∧ t.cpsr = p ∧ RegsKeptBut s t [] ∧ PlainFrame s t :=
  ⟨_, advance_of_fits h, rfl, fun _ _ => getPhys_congr rfl _, ⟨rfl, rfl⟩, jumpFrame_refl s⟩

/-- The next instruction after a change of the flags and a write of one register. -/
theorem advance_writeReg_withCpsr (hm : p.mode = s.cpsr.mode) (hf : Fits s) {rd : RegNo} (hrd : rd ≠ 15) (v : Word) :
    ∃ t, advance (writeReg { s with cpsr := p } rd v) = .next t ∧ Holds s t rd v ∧ RegsKeptBut s t [reg s rd]
      ∧ t.cpsr = p ∧ PlainFrame s t := by
  have hreg : reg { s with cpsr := p } rd = reg s rd := congrArg (physReg · rd) hm
  have hfits : ¬ (is26 (writeReg { s with cpsr := p } rd v).cpsr.mode = true
      ∧ (writeReg { s with cpsr := p } rd v).pc = 0x03FFFFFC) := by
    rw [writeReg_cpsr, writeReg_pc, hm]
    exact hf
  obtain ⟨q, hq, hv⟩ := holds_writeReg (s := { s with cpsr := p }) v hrd
  have hkept := hreg ▸ regsKeptBut_writeReg (s := { s with cpsr := p }) v hrd
  refine ⟨_, advance_of_fits hfits, ⟨q, hreg ▸ hq, (getPhys_congr rfl q).trans hv⟩,
    fun x hx => (getPhys_congr rfl x).trans ((hkept x hx).trans (getPhys_congr rfl x)), writeReg_cpsr .., ⟨?_, rfl⟩,
    jumpFrame_writeReg { s with cpsr := p } rd v⟩
  exact congrArg (· + 4) (writeReg_pc { s with cpsr := p } rd v)

end

/-! ### The PSR of a 26-bit mode -/

theorem setPsr26_eq (s : State) (w : Word) : setPsr26 s w = { s with cpsr := (setPsr26 s w).cpsr } := by
  unfold setPsr26
  dsimp only
  split <;> rfl

theorem is26_mode26 (m1 m0 : Bool) : is26 (mode26 m1 m0) = true := by
  cases m1 <;> cases m0 <;> rfl

theorem modeBits_mode26 : ∀ m : BitVec 2, modeBits (mode26 (m.getLsbD 1) (m.getLsbD 0)) = 0#3 ++ m := by decide

theorem setPsr26_of_usr26 {s : State} (h : s.cpsr.mode = .usr26) (w : Word) : setPsr26 s w = setFlagBits s w :=
  if_pos h

/-- Outside User mode the word sets I, F and the mode too. -/
theorem setPsr26_cpsr_of_ne_usr26 {s : State} (h : s.cpsr.mode ≠ .usr26) (w : Word) :
    (setPsr26 s w).cpsr = { (setFlagBits s w).cpsr with
      i := w.getLsbD 27, f := w.getLsbD 26, mode := mode26 (w.getLsbD 1) (w.getLsbD 0) } :=
  congrArg State.cpsr (if_neg h)

/-- No word leads out of the 26-bit modes (R284, R285). -/
theorem is26_setPsr26 {s : State} (h : is26 s.cpsr.mode = true) (w : Word) :
    is26 (setPsr26 s w).cpsr.mode = true := by
  by_cases hu : s.cpsr.mode = .usr26
  · rw [setPsr26_of_usr26 hu]
    exact h
  · rw [setPsr26_cpsr_of_ne_usr26 hu]
    exact is26_mode26 _ _

theorem psr26Written_of_cpsr {s t : State} {w : Word} (h : t.cpsr = (setPsr26 s w).cpsr) : Psr26Written s t w := by
  by_cases hu : s.cpsr.mode = .usr26
  · rw [setPsr26_of_usr26 hu] at h
    rw [Psr26Written, h]
    exact ⟨rfl, rfl, rfl, rfl, fun _ => ⟨rfl, rfl, hu⟩, fun hn => absurd hu hn⟩
  · rw [setPsr26_cpsr_of_ne_usr26 hu] at h
    have hm : modeBits t.cpsr.mode = 0#3 ++ w.extractLsb' 0 2 := by
      rw [h, ← modeBits_mode26]
      simp
    rw [Psr26Written]
    refine ⟨?_, ?_, ?_, ?_, fun hn => absurd hn hu, fun _ => ⟨?_, ?_, hm⟩⟩ <;> rw [h] <;> rfl

/-- Addresses are cut alike in the modes of one width (R42, R43). -/
theorem pcAfter_of_is26_eq {m m' : Mode} (h : is26 m = is26 m') (a : Word) : pcAfter m a = pcAfter m' a := by
  rw [pcAfter, pcAfter, h]

/-! ### The return from an exception -/

/-- A CPSR has the fields of an SPSR exactly when the SPSR can be moved there (R44, R48). -/
theorem cpsrOf_iff {p : Psr} {q : Cpsr} : CpsrOf p q ↔ psrToCpsr p = some q := by
  obtain ⟨n, z, c, v, i, f, m⟩ := q
  simp only [CpsrOf, psrToCpsr, Option.map_eq_some_iff, modeOfBits_eq_some, Cpsr.mk.injEq]
  constructor
  · rintro ⟨rfl, rfl, rfl, rfl, rfl, rfl, hm⟩
    exact ⟨m, hm.symm, rfl, rfl, rfl, rfl, rfl, rfl, rfl⟩
  · rintro ⟨m, hm, rfl, rfl, rfl, rfl, rfl, rfl, rfl⟩
    exact ⟨rfl, rfl, rfl, rfl, rfl, rfl, hm.symm⟩

theorem currentSpsr_of_noSpsr {s : State} (h : noSpsr s.cpsr.mode) : currentSpsr s = none := by
  unfold currentSpsr
  rcases h with h | h | h <;> rw [h] <;> rfl

theorem enters26Outside_eq_true {s : State} {m : Mode} (h : is26 s.cpsr.mode = false) :
    enters26Outside s m = true ↔ is26 m = true ∧ 0x03FFFFFF < s.pc.toNat := by
  simp [enters26Outside, h]

section
variable {s : State} {p : Psr} (target : Word) (r : Refusal)

theorem returnFromException_absent (h : currentSpsr s = none) : returnFromException s target r = .refused r := by
  rw [returnFromException, h]

theorem returnFromException_invalid (h : currentSpsr s = some p) (hq : ∀ q, ¬ CpsrOf p q) :
    returnFromException s target r = .refused .invalidMode := by
  have hp : psrToCpsr p = none := Option.eq_none_iff_forall_ne_some.mpr fun q e => hq q (cpsrOf_iff.mpr e)
  rw [returnFromException, h]
  dsimp only
  rw [hp]

theorem returnFromException_valid (h : currentSpsr s = some p) {q : Cpsr} (hq : CpsrOf p q) :
    returnFromException s target r
      = refuseIf (enters26Outside s q.mode) .enter26Outside (.next (branchTo { s with cpsr := q } target)) := by
  rw [returnFromException, h]
  dsimp only
  rw [cpsrOf_iff.mp hq]

end

/-! ### The obligations -/

/-- An operation that writes Rd: all the operand forms at once, with S and without. -/
theorem aluWrites_of_not_isTest {op : AluOp} (hop : op.isTest = false) : AluWrites op := by
  intro c sb rn rd o s hc hrd hread hfits
  rw [exec_dp_of_readable hc hread, hop, Bool.false_or, finishAlu_register _ _ hop sb hrd, dpResult_value]
  cases sb with
  | false =>
    obtain ⟨t, ht, hv, hregs, hp, hframe⟩ := advance_writeReg_withCpsr s s.cpsr rfl hfits hrd _
    exact ⟨t, ht, hv, hregs, nofun, fun _ => hp, hframe⟩
  | true =>
    obtain ⟨t, ht, hv, hregs, hp, hframe⟩ :=
      advance_writeReg_withCpsr s (setAluFlags s (dpResult s op rn o)).cpsr rfl hfits hrd _
    exact ⟨t, ht, hv, hregs, fun _ => flagsSet_of_cpsr hp, nofun, hframe⟩

/-- Settles O6. -/
theorem arithmeticResult : Obligations.ArithmeticResult :=
  ⟨aluWrites_of_not_isTest rfl, aluWrites_of_not_isTest rfl, aluWrites_of_not_isTest rfl, aluWrites_of_not_isTest rfl,
    aluWrites_of_not_isTest rfl, aluWrites_of_not_isTest rfl⟩

/-- Settles O7. -/
theorem logicalResult : Obligations.LogicalResult :=
  ⟨aluWrites_of_not_isTest rfl, aluWrites_of_not_isTest rfl, aluWrites_of_not_isTest rfl, aluWrites_of_not_isTest rfl,
    aluWrites_of_not_isTest rfl, aluWrites_of_not_isTest rfl⟩

/-- Settles O8. -/
theorem testFlags : Obligations.TestFlags := by
  intro op hop c rn rd o s hc hrd hread hfits
  have htest := isTest_eq_true.mpr hop
  obtain ⟨t, ht, hp, hregs, hframe⟩ := advance_withCpsr s (setAluFlags s (dpResult s op rn o)).cpsr hfits
  rw [exec_dp_of_readable hc hread, finishAlu_test _ _ htest _ hrd]
  exact ⟨t, ht, flagsSet_of_cpsr hp, hregs, hframe⟩

/-- Settles O9. -/
theorem aluJump : Obligations.AluJump := by
  intro op hop c rn o s hc hread
  have htest := isTest_eq_false.mpr hop
  obtain ⟨hpc, hregs, hframe⟩ := branchTo_withCpsr s s.cpsr (dpResult s op rn o).value
  rw [exec_dp_of_readable hc hread, htest, Bool.false_or, finishAlu_jump _ _ htest, ← dpResult_value]
  exact ⟨_, rfl, hpc, rfl, hregs, hframe⟩

/-- Settles O10: the instruction is `returnFromException` to its result, and each clause is a branch of that. -/
theorem aluReturn : Obligations.AluReturn := by
  intro op hop c rn o s hc hread h26
  have htest := isTest_eq_false.mpr hop
  rw [exec_dp_of_readable hc hread, Bool.or_true, finishAlu_fifteen _ _ htest, h26, ← dpResult_value]
  refine ⟨fun h => returnFromException_absent _ _ (currentSpsr_of_noSpsr h), fun p hp => ⟨fun q hq => ?_, ?_⟩⟩
  · rw [if_neg Bool.false_ne_true, returnFromException_valid _ _ hp hq]
    refine ⟨fun hin => ?_, fun hq26 hout => ?_⟩
    · have henter : enters26Outside s q.mode = false := Bool.eq_false_iff.mpr fun e =>
        let ⟨hq26, hout⟩ := (enters26Outside_eq_true h26).mp e
        absurd (hin hq26) (Nat.not_le.mpr hout)
      obtain ⟨hpc, hregs, hframe⟩ := branchTo_withCpsr s q (dpResult s op rn o).value
      rw [henter, refuseIf_false]
      exact ⟨_, rfl, rfl, hpc, hregs, hframe⟩
    · rw [(enters26Outside_eq_true h26).mpr ⟨hq26, hout⟩, refuseIf_true]
  · exact returnFromException_invalid _ _ hp

/-- Settles O11. -/
theorem psrForms26 : Obligations.PsrForms26 := by
  intro op c rn o s hc hread h26
  have h26' := is26_setPsr26 h26 (dpResult s op rn o).value
  dsimp only
  rw [exec_dp_of_readable hc hread, Bool.or_true, ← dpResult_value]
  refine ⟨fun hop hfits => ?_, fun hop => ?_⟩
  · obtain ⟨t, ht, hp, hregs, hframe⟩ := advance_withCpsr s (setPsr26 s (dpResult s op rn o).value).cpsr
      fun ⟨_, hpc⟩ => hfits ⟨h26, hpc⟩
    rw [finishAlu_test_fifteen _ _ (isTest_eq_true.mpr hop), if_pos h26, setPsr26_eq]
    exact ⟨t, ht, psr26Written_of_cpsr hp, hregs, hframe⟩
  · have htest : op.isTest = false := Bool.eq_false_iff.mpr fun e => hop (isTest_eq_true.mp e)
    obtain ⟨hpc, hregs, hframe⟩ :=
      branchTo_withCpsr s (setPsr26 s (dpResult s op rn o).value).cpsr (dpResult s op rn o).value
    rw [finishAlu_fifteen _ _ htest, if_pos h26, setPsr26_eq]
    exact ⟨_, rfl, psr26Written_of_cpsr rfl, hpc.trans (pcAfter_of_is26_eq (h26'.trans h26.symm) _), hregs, hframe⟩

/-- Settles O12. -/
theorem aluRefused : Obligations.AluRefused := by
  intro op c sb rn rd s hc
  refine ⟨fun rs ty rm h => ?_, fun o hread hop h26 => ?_⟩
  · have hreads : (rs == 15 || rm == 15 || readsRn15 op rn) = true := by
      rw [Bool.or_eq_true, Bool.or_eq_true, beq_iff_eq, beq_iff_eq, readsRn15_eq_true, or_assoc]
      exact h
    rw [exec_dp_shiftReg, whenPassed_pass hc, aluShiftReg, hreads, refuseIf_true]
  · rw [exec_dp_of_readable hc hread, finishAlu_test_fifteen _ _ (isTest_eq_true.mpr hop), h26]
    rfl

end Sys2Proof.Machine
end

section
/-! SUPPORT. The words of the spec's examples (spec/42_data_processing.md R289, spec/44_multiply.md R332,
spec/45_single_data_transfer.md R358, spec/47_block_data_transfer.md R411, spec/48_swap_swi_imb.md R427 and R430). -/

namespace Sys2Proof

/-- Settles O56: each word is the code of its instruction, and decoding undoes encoding. -/
theorem decodeWords : Obligations.DecodeWords :=
  ⟨decodeEncode (.addShiftImm .eq false 4 2 0 .lsl 5) rfl, decodeEncode (.subShiftReg .al false 5 4 2 .lsr 7) rfl,
    decodeEncode (.teqImm .al 4 0 0 3) rfl, decodeEncode (.umlal .al true 5 1 3 2) rfl,
    decodeEncode (.ldrImmPre .al true false 2 1 16) rfl, decodeEncode (.ldm .al false true true 13 7) rfl,
    decodeEncode (.swp .al 2 0 1) rfl, decodeEncode (.imb .al) rfl⟩

end Sys2Proof
end

section
/-! SUPPORT. The status register transfers MRS and MSR (spec/43_psr_transfer.md R301 to R305): the word MRS shows, the
fields MSR writes, and what a change of the control bits records. -/

namespace Sys2Proof.Machine

open Sys2Proof.Claims

/-! ### MRS -/

/-- The reserved bits come from the free word, the defined bits only from the PSR (R44, R49). -/
theorem psrBits_psrWord (p : Psr) (free : Word) : PsrBits (psrWord p free) p := by
  have hfree : field (free &&& 0x0FFFFF20) 0 5 = 0#5 := by
    rw [field, BitVec.extractLsb'_and, show (0x0FFFFF20 : Word).extractLsb' 0 5 = 0#5 by decide, BitVec.and_zero]
  have hmode : field (psrWord p free) 0 5 = p.m := by
    simp only [psrWord, field_or, hfree]
    simp [field_place_disjoint, field_place_same]
  refine ⟨?_, ?_, ?_, ?_, ?_, ?_, hmode⟩ <;> simp [psrWord, place]

section
variable {c : Cond} {rd : RegNo} {s : State}

theorem exec_mrsCpsr_of_passed (h : conditionPassed c s.cpsr = true) (rd : RegNo) :
    exec (.mrsCpsr c rd) s = moveFromPsr rd (some (cpsrToPsr s.cpsr)) s := whenPassed_pass h

theorem exec_mrsSpsr_of_passed (h : conditionPassed c s.cpsr = true) (rd : RegNo) :
    exec (.mrsSpsr c rd) s = moveFromPsr rd (currentSpsr s) s := whenPassed_pass h

theorem moveFromPsr_fifteen (p : Option Psr) (s : State) : moveFromPsr 15 p s = .refused .psrTransferUsesR15 := rfl

theorem moveFromPsr_none (hrd : rd ≠ 15) : moveFromPsr rd none s = .refused .spsrAbsent := by
  rw [moveFromPsr, beq_false_of_ne hrd, refuseIf_false]

theorem moveFromPsr_some (hrd : rd ≠ 15) (hf : Fits s) (p : Psr) :
    ∃ t v, moveFromPsr rd (some p) s = .next t ∧ Holds s t rd v ∧ PsrBits v p
      ∧ RegsKeptBut s t [reg s rd] ∧ t.cpsr = s.cpsr ∧ PlainFrame s t := by
  obtain ⟨t, ht, hv, hframe⟩ :=
    advance_writeReg_withCpsr s s.cpsr rfl hf hrd (psrWord p (Config.freeWord s.tick .psrReserved))
  rw [moveFromPsr, beq_false_of_ne hrd, refuseIf_false]
  exact ⟨t, _, ht, hv, psrBits_psrWord p _, hframe⟩

end

/-- Settles O18: both forms are `moveFromPsr`, of the CPSR or of the SPSR that the mode has. -/
theorem PsrTransfer.moveFromPsr : Obligations.MoveFromPsr := by
  intro c rd s hc
  rw [exec_mrsCpsr_of_passed hc, exec_mrsSpsr_of_passed hc]
  refine ⟨?_, fun hrd hm => ?_, fun hrd hf => ⟨moveFromPsr_some hrd hf _, fun p hp => ?_⟩⟩
  · rintro rfl
    exact ⟨moveFromPsr_fifteen _ s, moveFromPsr_fifteen _ s⟩
  · rw [currentSpsr_of_noSpsr hm, moveFromPsr_none hrd]
  · rw [currentSpsr, hp]
    exact moveFromPsr_some hrd hf p

/-! ### The source of MSR -/

section
variable {c : Cond} {s : State}

/-- The register form moves the register's word, and R15 is none (R303). -/
theorem refuseIf_fifteen_eq_elim (s : State) (rm : RegNo) (k : Word → Result) :
    refuseIf (rm == 15) .psrTransferUsesR15 (k (readReg s .m rm))
      = (msrWord s (.reg rm)).elim (.refused .psrTransferUsesR15) k := by
  by_cases hrm : rm = 15
  · rw [hrm]
    rfl
  · rw [beq_false_of_ne hrm, refuseIf_false, msrWord, if_neg hrm, Option.elim_some]

theorem exec_msrCpsr_of_passed (h : conditionPassed c s.cpsr = true) (mask : FieldMask) (src : MsrSource) :
    exec (msrCpsr c mask src) s = (msrWord s src).elim (.refused .psrTransferUsesR15) (moveToCpsr mask · s) := by
  cases src with
  | imm r k => exact whenPassed_pass h
  | reg rm => exact (whenPassed_pass h).trans (refuseIf_fifteen_eq_elim s rm (moveToCpsr mask · s))

theorem exec_msrSpsr_of_passed (h : conditionPassed c s.cpsr = true) (mask : FieldMask) (src : MsrSource) :
    exec (msrSpsr c mask src) s = (msrWord s src).elim (.refused .psrTransferUsesR15) (moveToSpsr mask · s) := by
  cases src with
  | imm r k => exact whenPassed_pass h
  | reg rm => exact (whenPassed_pass h).trans (refuseIf_fifteen_eq_elim s rm (moveToSpsr mask · s))

end

/-! ### MSR to the CPSR -/

/-- The CPSR with the flags that the mask selects taken from a word (R303, R304). -/
def maskedFlags (mask : FieldMask) (w : Word) (p : Cpsr) : Cpsr :=
  { p with
    n := if mask.flags then w.getLsbD 31 else p.n
    z := if mask.flags then w.getLsbD 30 else p.z
    c := if mask.flags then w.getLsbD 29 else p.c
    v := if mask.flags then w.getLsbD 28 else p.v }

section
variable {mask : FieldMask} {s : State} {v : Word}

theorem maskedFlags_of_flags (h : mask.flags = true) (w : Word) (p : Cpsr) :
    maskedFlags mask w p
      = { p with n := w.getLsbD 31, z := w.getLsbD 30, c := w.getLsbD 29, v := w.getLsbD 28 } := by
  simp [maskedFlags, h]

theorem maskedFlags_of_not_flags (h : mask.flags = false) (w : Word) (p : Cpsr) : maskedFlags mask w p = p := by
  simp [maskedFlags, h]

theorem moveToCpsr_eq (mask : FieldMask) (v : Word) (s : State) :
    moveToCpsr mask v s
      = if mask.control && isPrivileged s.cpsr.mode
        then writeControl v { s with cpsr := maskedFlags mask v s.cpsr }
        else advance { s with cpsr := maskedFlags mask v s.cpsr } := by
  cases hf : mask.flags with
  | true => simp [moveToCpsr, hf, maskedFlags_of_flags hf, setFlagBits, privileged]
  | false => simp [moveToCpsr, hf, maskedFlags_of_not_flags hf, privileged]

/-- A number that no mode has is refused (R48). -/
theorem writeControl_invalid (h : ∀ m, modeBits m ≠ v.extractLsb' 0 5) (s : State) :
    writeControl v s = .refused .invalidMode := by
  have hnone : modeOfBits (field v 0 5) = none :=
    Option.eq_none_iff_forall_ne_some.mpr fun m e => h m (modeOfBits_eq_some.mp e).symm
  rw [writeControl, hnone]

/-- The state with the control bits of a word that holds the code of `m`, and the IMB owed for a change between a 26-bit
and a 32-bit mode (R129, R304, log 9). -/
def withControl (v : Word) (m : Mode) (s : State) : State :=
  { s with
    cpsr := { s.cpsr with i := v.getLsbD 7, f := v.getLsbD 6, mode := m }
    imbOwed := if (is26 m != is26 s.cpsr.mode) = true ∧ s.imbReturn ≠ some s.pc then (s.pc + 4) :: s.imbOwed
      else s.imbOwed }

theorem writeControl_valid {m : Mode} (h : modeBits m = v.extractLsb' 0 5) (s : State) :
    writeControl v s = refuseIf (enters26Outside s m) .enter26Outside (advance (withControl v m s)) := by
  rw [writeControl, show modeOfBits (field v 0 5) = some m from modeOfBits_eq_some.mpr h.symm]
  simp only [withControl, Bool.and_eq_true, bne_iff_ne]

/-- Entering a 26-bit mode from a 32-bit one is a change to one. -/
theorem enters26Outside_iff_changes {m : Mode} : enters26Outside s m = true ↔
    (is26 m != is26 s.cpsr.mode) = true ∧ is26 m = true ∧ 0x03FFFFFF < s.pc.toNat := by
  cases hm : is26 m <;> cases hs : is26 s.cpsr.mode <;> simp [enters26Outside, hm, hs]

/-- A 26-bit mode is not entered above its address space (R82). -/
theorem writeControl_outside {m : Mode} (h : modeBits m = v.extractLsb' 0 5)
    (hchange : (is26 m != is26 s.cpsr.mode) = true) (h26 : is26 m = true) (hout : 0x03FFFFFF < s.pc.toNat) :
    writeControl v s = .refused .enter26Outside := by
  rw [writeControl_valid h, enters26Outside_iff_changes.mpr ⟨hchange, h26, hout⟩, refuseIf_true]

/-- The mode entered decides whether the next word follows (log 33). -/
theorem writeControl_inside {m : Mode} (h : modeBits m = v.extractLsb' 0 5)
    (hin : (is26 m != is26 s.cpsr.mode) = true → is26 m = true → s.pc.toNat ≤ 0x03FFFFFF)
    (hf : ¬ (is26 m = true ∧ s.pc = 0x03FFFFFC)) :
    writeControl v s = .next { withControl v m s with pc := s.pc + 4, nextFetch := .sequential } := by
  have henter : enters26Outside s m = false := Bool.eq_false_iff.mpr fun e =>
    let ⟨hchange, h26, hout⟩ := enters26Outside_iff_changes.mp e
    absurd (hin hchange h26) (Nat.not_le.mpr hout)
  rw [writeControl_valid h, henter, refuseIf_false]
  exact advance_of_fits hf

end

/-- Settles O19: the flags are masked first; the control bits are `writeControl`, or in User mode protected. -/
theorem PsrTransfer.moveToCpsr : Obligations.MoveToCpsr := by
  intro c mask src s hc
  rw [exec_msrCpsr_of_passed hc]
  refine ⟨fun hv => by rw [hv]; rfl, fun v hv => ?_⟩
  rw [hv, Option.elim_some, moveToCpsr_eq]
  refine ⟨fun hprot hf => ?_, fun hcontrol hpriv => ?_⟩
  · have hkeep : (mask.control && isPrivileged s.cpsr.mode) = false := Bool.and_eq_false_iff.mpr hprot
    obtain ⟨t, ht, hp, hframe⟩ := advance_withCpsr s (maskedFlags mask v s.cpsr) hf
    rw [hkeep, if_neg Bool.false_ne_true]
    exact ⟨t, ht, fun h => hp.trans (maskedFlags_of_flags h _ _), fun h => hp.trans (maskedFlags_of_not_flags h _ _),
      hframe⟩
  · rw [hcontrol, hpriv, Bool.true_and, if_pos rfl]
    obtain ⟨hspsr, hstale, hmem, hinputs, hcoproc, -, hreturn, hhazard⟩ := jumpFrame_refl s
    refine ⟨fun h => writeControl_invalid h _, fun m hm =>
      ⟨fun hchange h26 hout => writeControl_outside hm hchange h26 hout, fun hin hf =>
      ⟨_, writeControl_inside hm hin hf, rfl, rfl, rfl, fun h => ?_, fun h => ?_, rfl, fun _ _ => getPhys_congr rfl _,
        hspsr, hstale, hmem, hinputs, hcoproc, hreturn, hhazard, rfl, rfl⟩⟩⟩
    · rw [withControl, maskedFlags_of_flags h]
      exact ⟨rfl, rfl, rfl, rfl⟩
    · rw [withControl, maskedFlags_of_not_flags h]
      exact ⟨rfl, rfl, rfl, rfl⟩

/-! ### MSR to an SPSR -/

section
variable {s : State}

/-- Each field is taken from the word or kept, as its bit of the mask says (R303, R305). -/
theorem maskedPsr_eq (mask : FieldMask) (v : Word) (p : Psr) :
    maskedPsr mask v p =
      { n := if mask.flags then v.getLsbD 31 else p.n, z := if mask.flags then v.getLsbD 30 else p.z,
        c := if mask.flags then v.getLsbD 29 else p.c, v := if mask.flags then v.getLsbD 28 else p.v,
        i := if mask.control then v.getLsbD 7 else p.i, f := if mask.control then v.getLsbD 6 else p.f,
        m := if mask.control then v.extractLsb' 0 5 else p.m } := by
  cases hf : mask.flags <;> cases hc : mask.control <;> simp [maskedPsr, hf, hc, psrOfWord, field]

theorem moveToSpsr_absent (h : currentSpsr s = none) (mask : FieldMask) (v : Word) :
    moveToSpsr mask v s = .refused .spsrAbsent := by
  rw [moveToSpsr, h]

theorem moveToSpsr_present {p : Psr} (h : currentSpsr s = some p) (mask : FieldMask) (v : Word) :
    moveToSpsr mask v s = advance (setSpsr s (modeBank s.cpsr.mode) (maskedPsr mask v p)) := by
  rw [moveToSpsr, h]

/-- The bank of an SPSR is not the User bank (R32). -/
theorem ne_usr_of_getSpsr {b : Bank} {p : Psr} (h : getSpsr s b = some p) : b ≠ .usr := by
  rintro rfl
  cases h

theorem restKept_setSpsr (s : State) (b : Bank) (p : Psr) : RestKept s (setSpsr s b p) := by
  simp [RestKept, InputsKept, CoprocKept, RecordsKept]

theorem advance_setSpsr (hf : Fits s) (b : Bank) (p : Psr) :
    advance (setSpsr s b p) = .next { setSpsr s b p with pc := s.pc + 4, nextFetch := .sequential } := by
  rw [advance_of_fits (by rwa [setSpsr_cpsr, setSpsr_pc]), setSpsr_pc]

end

/-- Settles O20: one SPSR is written, and `maskedPsr` says which of its fields. -/
theorem PsrTransfer.moveToSpsr : Obligations.MoveToSpsr := by
  intro c mask src s hc
  rw [exec_msrSpsr_of_passed hc]
  refine ⟨fun hv => by rw [hv]; rfl, fun v hv => ?_⟩
  rw [hv, Option.elim_some]
  refine ⟨fun hm => moveToSpsr_absent (currentSpsr_of_noSpsr hm) mask v, fun p hp hf => ?_⟩
  have hbank : modeBank s.cpsr.mode ≠ .usr := ne_usr_of_getSpsr hp
  have hspsr (b : Bank) := getSpsr_setSpsr s (b := b) (maskedPsr mask v p) hbank
  rw [moveToSpsr_present hp, advance_setSpsr hf]
  refine ⟨_, maskedPsr mask v p, rfl, (hspsr _).trans (if_pos rfl), ?_, ?_, ?_, ?_,
    fun b hb => (hspsr b).trans (if_neg hb), fun r _ => getPhys_congr (setSpsr_regs ..) r, setSpsr_cpsr ..,
    setSpsr_stale .., byteAt_congr (setSpsr_mem ..), restKept_setSpsr .., rfl, rfl⟩
  all_goals
    intro h
    simp [maskedPsr_eq, h]

end Sys2Proof.Machine
end

section
/-! SUPPORT. The multiplies (spec/44_multiply.md R321 to R324, R327 to R329): their results as numbers, the writes of
one and of two registers, and the operands they refuse. -/

namespace Sys2Proof.Machine

open Sys2Proof.Claims

/-! ### The results as numbers -/

/-- Narrowing commutes with multiplication, so the product of the extended words is the exact product (R327). -/
theorem longProduct_eq (signed : Bool) (m r : Word) :
    longProduct signed m r = BitVec.ofInt 64 (if signed then m.toInt * r.toInt else m.toNat * r.toNat) := by
  cases signed with
  | true => exact (BitVec.ofInt_mul m.toInt r.toInt).symm
  | false =>
    have hwide (x : Word) : x.setWidth 64 = BitVec.ofInt 64 x.toNat := by
      rw [BitVec.ofInt_natCast, BitVec.ofNat_toNat]
    calc m.setWidth 64 * r.setWidth 64 = BitVec.ofInt 64 m.toNat * BitVec.ofInt 64 r.toNat := by rw [hwide, hwide]
      _ = _ := (BitVec.ofInt_mul _ _).symm

/-- The addend RdHi:RdLo as a number (R327). -/
theorem append_eq_ofNat (hi lo : Word) : hi ++ lo = BitVec.ofNat 64 (hi.toNat * 2 ^ 32 + lo.toNat) := by
  apply BitVec.eq_of_toNat_eq
  have hlo := lo.isLt
  rw [BitVec.toNat_append, BitVec.toNat_ofNat, ← Nat.shiftLeft_add_eq_or_of_lt hlo, Nat.shiftLeft_eq]
  omega

theorem extractLsb'_low (r : BitVec 64) : r.extractLsb' 0 32 = BitVec.ofNat 32 (r.toNat % 2 ^ 32) := by
  apply BitVec.eq_of_toNat_eq
  rw [BitVec.extractLsb'_toNat, BitVec.toNat_ofNat, Nat.shiftRight_zero, Nat.mod_mod]

theorem extractLsb'_high (r : BitVec 64) : r.extractLsb' 32 32 = BitVec.ofNat 32 (r.toNat / 2 ^ 32) := by
  rw [← Nat.shiftRight_eq_div_pow]
  rfl

/-! ### The flags -/

theorem beq_zero_eq_true_iff {n : Nat} (w : BitVec n) : (w == 0) = true ↔ w.toNat = 0 := by
  rw [beq_iff_eq, BitVec.toNat_eq]
  rfl

theorem setMultiplyFlags_n_iff (s : State) (w : Word) : (setMultiplyFlags s w).cpsr.n = true ↔ 2 ^ 31 ≤ w.toNat := by
  rw [setMultiplyFlags, BitVec.msb_eq_decide, decide_eq_true_iff]

theorem setMultiplyFlags_z_iff (s : State) (w : Word) : (setMultiplyFlags s w).cpsr.z = true ↔ w.toNat = 0 :=
  beq_zero_eq_true_iff w

theorem setLongMultiplyFlags_n_iff (s : State) (r : BitVec 64) :
    (setLongMultiplyFlags s r).cpsr.n = true ↔ 2 ^ 63 ≤ r.toNat := by
  rw [setLongMultiplyFlags, BitVec.msb_eq_decide, decide_eq_true_iff]

theorem setLongMultiplyFlags_z_iff (s : State) (r : BitVec 64) :
    (setLongMultiplyFlags s r).cpsr.z = true ↔ r.toNat = 0 := beq_zero_eq_true_iff r

/-! ### Two register writes -/

section
variable {s t : State} (p : Cpsr)

/-- Which register a number names depends on the mode alone of the CPSR. -/
theorem writeReg_withCpsr (hm : p.mode = s.cpsr.mode) (i : RegNo) (v : Word) :
    writeReg { s with cpsr := p } i v = { writeReg s i v with cpsr := p } := by
  unfold writeReg
  rw [hm]
  cases physReg s.cpsr.mode i with
  | none => rfl
  | some r => cases r <;> rfl

theorem regsKeptBut_append {u : State} {l k : List (Option PhysReg)} (h : RegsKeptBut s u l) (hk : RegsKeptBut u t k) :
    RegsKeptBut s t (l ++ k) := fun r hr =>
  have ⟨hl, hk'⟩ := not_or.mp (mt List.mem_append.mpr hr)
  (hk r hk').trans (h r hl)

/-- A register write leaves everything that the frame speaks of. -/
theorem plainFrame_writeReg_iff {i : RegNo} {v : Word} : PlainFrame (writeReg s i v) t ↔ PlainFrame s t := by
  simp [PlainFrame, Advanced, MemKept, byteAt_congr (writeReg_mem s i v), RestKept, InputsKept, CoprocKept, RecordsKept]

/-- The next instruction after a change of the flags and writes of two different registers. -/
theorem advance_writeReg_writeReg_withCpsr (s : State) (hm : p.mode = s.cpsr.mode) (hf : Fits s) {lo hi : RegNo}
    (hlo : lo ≠ 15) (hhi : hi ≠ 15) (hne : hi ≠ lo) (a b : Word) :
    ∃ t, advance (writeReg (writeReg { s with cpsr := p } lo a) hi b) = .next t ∧ Holds s t lo a ∧ Holds s t hi b
      ∧ RegsKeptBut s t [reg s lo, reg s hi] ∧ t.cpsr = p ∧ PlainFrame s t := by
  have hcpsr : (writeReg s lo a).cpsr = s.cpsr := writeReg_cpsr s lo a
  have hreg : reg (writeReg s lo a) = reg s := funext fun i => by rw [reg, hcpsr, reg]
  have hfits : Fits (writeReg s lo a) := by rwa [Fits, hcpsr, writeReg_pc]
  obtain ⟨t, ht, ⟨q, hq, hb⟩, hkept, hp, hframe⟩ :=
    advance_writeReg_withCpsr (writeReg s lo a) p (by rw [hm, hcpsr]) hfits hhi b
  obtain ⟨r, hr, ha⟩ := holds_writeReg (s := s) a hlo
  rw [hreg] at hq hkept
  have hother : some r ∉ [reg s hi] := fun hmem =>
    hne (physReg_inj (List.mem_singleton.mp hmem).symm hr)
  rw [writeReg_withCpsr p hm]
  exact ⟨t, ht, ⟨r, hr, (hkept r hother).trans ha⟩, ⟨q, hq, hb⟩, regsKeptBut_append (regsKeptBut_writeReg a hlo) hkept,
    hp, plainFrame_writeReg_iff.mp hframe⟩

end

/-! ### MUL and MLA -/

/-- The result of MUL and MLA: MUL adds nothing (R321, R322). -/
def multiplyResult (acc : Bool) (rn rs rm : RegNo) (s : State) : Word :=
  readReg s .m rm * readReg s .s rs + if acc then readReg s .n rn else 0

section
variable {c : Cond} {s : State} {acc : Bool} {rd rn rs rm : RegNo}

/-- MUL is MLA with 0 for Rn, and looks at no Rn field (R321, R322, R324). -/
theorem exec_multiply_of_passed (h : conditionPassed c s.cpsr = true) (acc sb : Bool) (rd rn rs rm : RegNo) :
    exec (if acc then .mla c sb rd rn rs rm else .mul c sb rd rn rs rm) s
      = refuseIf (multiplyForbidden rd rs rm || (acc && rn == 15)) .multiplyOperands
          (multiply sb rd rs rm (if acc then readReg s .n rn else 0) s) := by
  cases acc with
  | true => exact whenPassed_pass h
  | false =>
    rw [Bool.false_and, Bool.or_false]
    exact whenPassed_pass h

theorem multiplyForbidden_eq_true : (multiplyForbidden rd rs rm || (acc && rn == 15)) = true
    ↔ rd = rm ∨ rd = 15 ∨ rm = 15 ∨ rs = 15 ∨ (acc = true ∧ rn = 15) := by
  simp [multiplyForbidden, or_assoc]

theorem multiplyForbidden_eq_false : (multiplyForbidden rd rs rm || (acc && rn == 15)) = false
    ↔ rd ≠ rm ∧ rd ≠ 15 ∧ rm ≠ 15 ∧ rs ≠ 15 ∧ (acc = true → rn ≠ 15) := by
  rw [← Bool.not_eq_true, multiplyForbidden_eq_true]
  simp only [not_or, not_and]

/-- Multiplication and addition of words are those of the naturals modulo 2^32 (R321, R322). -/
theorem multiplyResult_toNat : (multiplyResult acc rn rs rm s).toNat
    = ((readReg s .m rm).toNat * (readReg s .s rs).toNat + if acc then (readReg s .n rn).toNat else 0) % 2 ^ 32 := by
  rw [multiplyResult, BitVec.toNat_add, BitVec.toNat_mul, Nat.mod_add_mod, apply_ite BitVec.toNat]
  rfl

/-- Where the result goes, and what it leaves in the CPSR (R321 to R323). -/
theorem multiply_next (hf : Fits s) (hrd : rd ≠ 15) (sb acc : Bool) (rn rs rm : RegNo) :
    let w := multiplyResult acc rn rs rm s
    ∃ t, multiply sb rd rs rm (if acc then readReg s .n rn else 0) s = .next t ∧ Holds s t rd w
      ∧ RegsKeptBut s t [reg s rd] ∧ t.cpsr = (if sb then (setMultiplyFlags s w).cpsr else s.cpsr)
      ∧ PlainFrame s t := by
  cases sb with
  | false => exact advance_writeReg_withCpsr s s.cpsr rfl hf hrd _
  | true => exact advance_writeReg_withCpsr s (setMultiplyFlags s _).cpsr rfl hf hrd _

end

/-- Settles O21: both instructions are `multiply`, whose word is the number of `multiplyResult_toNat`. (In this
namespace the bare name is the model's function.) -/
theorem Multiplies.multiply : Obligations.Multiply := by
  intro c sb acc rd rn rs rm s hc i v
  have hexec : exec i s = _ := exec_multiply_of_passed hc acc sb rd rn rs rm
  have hv : (multiplyResult acc rn rs rm s).toNat = v := multiplyResult_toNat
  rw [hexec, ← hv]
  refine ⟨fun h => ?_, fun hdm hd hm hs hn hf => ?_⟩
  · rw [multiplyForbidden_eq_true.mpr h, refuseIf_true]
  · obtain ⟨t, ht, hw, hregs, hp, hframe⟩ := multiply_next hf hd sb acc rn rs rm
    rw [multiplyForbidden_eq_false.mpr ⟨hdm, hd, hm, hs, hn⟩, refuseIf_false, BitVec.ofNat_toNat, BitVec.setWidth_eq]
    refine ⟨t, ht, hw, hregs, fun hsb => ?_, fun hsb => ?_, hframe⟩
    · rw [hp, if_pos hsb]
      exact ⟨setMultiplyFlags_n_iff .., setMultiplyFlags_z_iff .., rfl, rfl, rfl, rfl⟩
    · rw [hp, hsb, if_neg Bool.false_ne_true]

/-! ### The long multiplies -/

/-- The long multiply by its U and A bits (R326). -/
def longMultiply (signed acc : Bool) (c : Cond) (sb : Bool) (hi lo rs rm : RegNo) : Instr :=
  match signed, acc with
  | false, false => .umull c sb hi lo rs rm
  | false, true => .umlal c sb hi lo rs rm
  | true, false => .smull c sb hi lo rs rm
  | true, true => .smlal c sb hi lo rs rm

/-- The 64-bit result of a long multiply (R327). -/
def longResult (signed acc : Bool) (hi lo rs rm : RegNo) (s : State) : BitVec 64 :=
  longProduct signed (readReg s .m rm) (readReg s .s rs) + if acc then readReg s .n hi ++ readReg s .d lo else 0

/-- The operands no long multiply may have (R329). -/
def longMultiplyForbidden (hi lo rs rm : RegNo) : Bool :=
  hi == 15 || lo == 15 || rs == 15 || rm == 15 || hi == lo || hi == rm || lo == rm

section
variable {c : Cond} {s : State} {signed acc : Bool} {hi lo rs rm : RegNo}

theorem exec_longMultiply_of_passed (h : conditionPassed c s.cpsr = true) (signed acc sb : Bool) (hi lo rs rm : RegNo) :
    exec (longMultiply signed acc c sb hi lo rs rm) s = multiplyLong signed acc sb hi lo rs rm s := by
  cases signed <;> cases acc <;> exact whenPassed_pass h

theorem longMultiplyForbidden_eq_true : longMultiplyForbidden hi lo rs rm = true
    ↔ hi = 15 ∨ lo = 15 ∨ rs = 15 ∨ rm = 15 ∨ hi = lo ∨ hi = rm ∨ lo = rm := by
  simp [longMultiplyForbidden, or_assoc]

theorem longMultiplyForbidden_eq_false : longMultiplyForbidden hi lo rs rm = false
    ↔ hi ≠ 15 ∧ lo ≠ 15 ∧ rs ≠ 15 ∧ rm ≠ 15 ∧ hi ≠ lo ∧ hi ≠ rm ∧ lo ≠ rm := by
  rw [← Bool.not_eq_true, longMultiplyForbidden_eq_true]
  simp only [not_or]

/-- The result is the exact sum of the product and the addend, modulo 2^64 (R327). -/
theorem longResult_toNat : (longResult signed acc hi lo rs rm s).toNat
    = (((if signed then (readReg s .m rm).toInt * (readReg s .s rs).toInt
          else (readReg s .m rm).toNat * (readReg s .s rs).toNat : Int)
        + (if acc then (readReg s .n hi).toNat * 2 ^ 32 + (readReg s .d lo).toNat else 0 : Nat)) % 2 ^ 64).toNat := by
  have haddend : (if acc then readReg s .n hi ++ readReg s .d lo else 0 : BitVec 64)
      = BitVec.ofInt 64 (if acc then (readReg s .n hi).toNat * 2 ^ 32 + (readReg s .d lo).toNat else 0 : Nat) := by
    rw [BitVec.ofInt_natCast, append_eq_ofNat]
    cases acc <;> rfl
  rw [longResult, longProduct_eq, haddend, ← BitVec.ofInt_add, BitVec.toNat_ofInt]
  rfl

theorem multiplyLong_forbidden (h : longMultiplyForbidden hi lo rs rm = true) (signed acc sb : Bool) (s : State) :
    multiplyLong signed acc sb hi lo rs rm s = .refused .longMultiplyOperands :=
  congrArg (refuseIf · _ _) h

/-- Where the result goes, and what it leaves in the CPSR (R327, R328). -/
theorem multiplyLong_next (h : longMultiplyForbidden hi lo rs rm = false) (hf : Fits s) (signed acc sb : Bool) :
    let r := longResult signed acc hi lo rs rm s
    ∃ t, multiplyLong signed acc sb hi lo rs rm s = .next t ∧ Holds s t lo (BitVec.ofNat 32 (r.toNat % 2 ^ 32))
      ∧ Holds s t hi (BitVec.ofNat 32 (r.toNat / 2 ^ 32)) ∧ RegsKeptBut s t [reg s lo, reg s hi]
      ∧ t.cpsr = (if sb then (setLongMultiplyFlags s r).cpsr else s.cpsr) ∧ PlainFrame s t := by
  intro r
  obtain ⟨hhi, hlo, -, -, hne, -, -⟩ := longMultiplyForbidden_eq_false.mp h
  have hmul : multiplyLong signed acc sb hi lo rs rm s
      = advance (writeReg (writeReg (if sb then setLongMultiplyFlags s r else s) lo (r.extractLsb' 0 32)) hi
          (r.extractLsb' 32 32)) := congrArg (refuseIf · _ _) h
  rw [hmul, ← extractLsb'_low, ← extractLsb'_high]
  cases sb with
  | false => exact advance_writeReg_writeReg_withCpsr s.cpsr s rfl hf hlo hhi hne _ _
  | true => exact advance_writeReg_writeReg_withCpsr (setLongMultiplyFlags s r).cpsr s rfl hf hlo hhi hne _ _

end

/-- Settles O22: the four instructions are `multiplyLong`, whose result is the number of `longResult_toNat`. (In this
namespace the bare name is the model's function.) -/
theorem Multiplies.multiplyLong : Obligations.MultiplyLong := by
  intro c signed acc sb hi lo rs rm s hc i p a v
  have hexec : exec i s = Machine.multiplyLong signed acc sb hi lo rs rm s :=
    exec_longMultiply_of_passed hc signed acc sb hi lo rs rm
  have hv : (longResult signed acc hi lo rs rm s).toNat = v := longResult_toNat
  rw [hexec, ← hv]
  refine ⟨fun h => multiplyLong_forbidden (longMultiplyForbidden_eq_true.mpr h) ..,
    fun hhi hlo hs hm hne hhm hlm hf => ?_⟩
  have hallowed := longMultiplyForbidden_eq_false.mpr ⟨hhi, hlo, hs, hm, hne, hhm, hlm⟩
  obtain ⟨t, ht, hlow, hhigh, hregs, hp, hframe⟩ := multiplyLong_next hallowed hf signed acc sb
  refine ⟨t, ht, hlow, hhigh, hregs, fun hsb => ?_, fun hsb => ?_, hframe⟩
  · rw [hp, if_pos hsb]
    exact ⟨setLongMultiplyFlags_n_iff .., setLongMultiplyFlags_z_iff .., rfl, rfl, rfl⟩
  · rw [hp, hsb, if_neg Bool.false_ne_true]

end Sys2Proof.Machine
end

section
/-! SUPPORT. The halfword and signed transfers (spec/46_halfword_signed_transfer.md R373 to R376, R379, R381): the Data
Abort of a transfer (spec/60_exceptions.md R506, R512), the write-back with what it keeps, and each access. -/

namespace Sys2Proof.Machine

open Sys2Proof.Claims

/-! ### Exception entry -/

theorem excMode_bank_ne_usr (e : Exc) : modeBank (excMode e) ≠ .usr := by cases e <;> decide

theorem getPhys_takeException_r14 (e : Exc) (ret : Word) (s : State) :
    getPhys (takeException e ret s) (.r14 (modeBank (excMode e))) = returnAddress s.cpsr.mode ret := by
  have hregs : (takeException e ret s).regs
      = (setPhys s (.r14 (modeBank (excMode e))) (returnAddress s.cpsr.mode ret)).regs := setSpsr_regs ..
  rw [getPhys_congr hregs, getPhys_setPhys_same]

theorem getSpsr_takeException (e : Exc) (ret : Word) (s : State) (b : Bank) :
    getSpsr (takeException e ret s) b
      = if b = modeBank (excMode e) then some (cpsrToPsr s.cpsr) else getSpsr s b := by
  have hset := getSpsr_setSpsr (setPhys s (.r14 (modeBank (excMode e))) (returnAddress s.cpsr.mode ret)) (b := b)
    (cpsrToPsr s.cpsr) (excMode_bank_ne_usr e)
  rw [getSpsr_congr (setPhys_spsr ..)] at hset
  exact (getSpsr_congr rfl b).trans hset

/-- What every exception but Reset does (R506, R540); only FIQ sets F. -/
theorem entered_takeException (e : Exc) (ret : Word) (s : State) :
    Entered (modeBank (excMode e)) (excMode e) (excVector e) (returnAddress s.cpsr.mode ret) (e == .fiq) s
      (takeException e ret s) := by
  have hcpsr : (takeException e ret s).cpsr
      = { s.cpsr with i := true, f := s.cpsr.f || e == .fiq, mode := excMode e } := by
    cases e <;> simp [takeException]
  have hinputs : InputsKept s (takeException e ret s) := by simp [InputsKept]
  exact ⟨getPhys_takeException_r14 e ret s,
    fun r hr => getPhys_takeException_other s e ret fun h => hr (by rw [h]; exact List.mem_singleton_self _),
    (getSpsr_takeException ..).trans (if_pos rfl), fun b hb => (getSpsr_takeException ..).trans (if_neg hb), hcpsr,
    takeException_pc .., byteAt_congr (takeException_mem ..), hinputs, takeException_hazardStep ..,
    takeException_imbOwed .., takeException_nextFetch ..⟩

theorem dataAborted_takeDataAbort (s : State) : DataAborted s (takeDataAbort s) :=
  ⟨entered_takeException .dataAbort (s.pc + 8) s, takeException_stale ..,
    ⟨takeException_coproc .., takeException_coprocLog .., takeException_controlLog ..⟩, takeException_imbReturn ..⟩

/-! ### The write-back -/

section
variable {s : State} {pre wb : Bool} {rn rd : RegNo}

theorem writeBack_of_writesBack (h : writesBack pre wb = true) (s : State) (rn : RegNo) (v : Word) :
    writeBack s pre wb rn v = writeReg s rn v := if_pos h

theorem writeBack_of_not_writesBack (h : writesBack pre wb = false) (s : State) (rn : RegNo) (v : Word) :
    writeBack s pre wb rn v = s := by
  rw [writeBack, h, if_neg Bool.false_ne_true]

@[simp] theorem writeBack_cpsr (s : State) (pre wb : Bool) (rn : RegNo) (v : Word) :
    (writeBack s pre wb rn v).cpsr = s.cpsr := by
  unfold writeBack
  split <;> simp

@[simp] theorem writeBack_mem (s : State) (pre wb : Bool) (rn : RegNo) (v : Word) :
    (writeBack s pre wb rn v).mem = s.mem := by
  unfold writeBack
  split <;> simp

theorem jumpFrame_writeBack (s : State) (pre wb : Bool) (rn : RegNo) (v : Word) :
    JumpFrame s (writeBack s pre wb rn v) := by
  unfold writeBack
  split
  · exact jumpFrame_writeReg s rn v
  · exact jumpFrame_refl s

theorem holds_writeBack (hrn : writesBack pre wb = true → rn ≠ 15) (v : Word) (h : writesBack pre wb = true) :
    Holds s (writeBack s pre wb rn v) rn v := by
  rw [writeBack_of_writesBack h]
  exact holds_writeReg v (hrn h)

theorem regsKeptBut_writeBack (hrn : writesBack pre wb = true → rn ≠ 15) (v : Word) :
    RegsKeptBut s (writeBack s pre wb rn v) (baseTarget s (writesBack pre wb) rn) := by
  cases h : writesBack pre wb with
  | false =>
    rw [writeBack_of_not_writesBack h]
    exact fun _ _ => rfl
  | true =>
    rw [writeBack_of_writesBack h]
    exact regsKeptBut_writeReg v (hrn h)

/-- The end of a load: the base written back, then Rd (R342, R372). -/
theorem advance_writeReg_writeBack (hf : Fits s) (hrd : rd ≠ 15) (hrn : writesBack pre wb = true → rn ≠ 15)
    (hne : writesBack pre wb = true → rd ≠ rn) (moved v : Word) :
    ∃ t, advance (writeReg (writeBack s pre wb rn moved) rd v) = .next t ∧ Holds s t rd v
      ∧ (writesBack pre wb = true → Holds s t rn moved)
      ∧ RegsKeptBut s t (loadTargets s (writesBack pre wb) rn rd) ∧ t.cpsr = s.cpsr ∧ PlainFrame s t := by
  cases h : writesBack pre wb with
  | false =>
    obtain ⟨t, ht, hv, hframe⟩ := advance_writeReg_withCpsr s s.cpsr rfl hf hrd v
    rw [writeBack_of_not_writesBack h]
    exact ⟨t, ht, hv, fun hw => absurd hw Bool.false_ne_true, hframe⟩
  | true =>
    obtain ⟨t, ht, hm, hv, hregs, hframe⟩ :=
      advance_writeReg_writeReg_withCpsr s.cpsr s rfl hf (hrn h) hrd (hne h) moved v
    rw [writeBack_of_writesBack h]
    exact ⟨t, ht, hv, fun _ => hm, fun r hr => hregs r (mt (List.Perm.swap ..).mem_iff.mp hr), hframe⟩

/-- The end of a store that changed memory alone: the word address is stale, then the base is written back (R127, R342,
R372). -/
theorem advance_writeBack_markStale (hf : Fits s) (hrn : writesBack pre wb = true → rn ≠ 15) (m : Memory)
    (a moved : Word) :
    ∃ t, advance (writeBack (markStale { s with mem := m } a) pre wb rn moved) = .next t ∧ t.mem = m
      ∧ StoreFrame s t (writesBack pre wb) rn moved a := by
  let u := markStale { s with mem := m } a
  have hfits : Fits (writeBack u pre wb rn moved) := by
    rw [Fits, writeBack_cpsr, writeBack_pc]
    exact hf
  obtain ⟨hspsr, hstale, -, hrest⟩ := jumpFrame_writeBack u pre wb rn moved
  refine ⟨_, advance_of_fits hfits, writeBack_mem .., ?_, ?_, writeBack_cpsr .., hspsr, ?_, hrest, ?_, rfl⟩
  · exact holds_writeBack (s := u) hrn moved
  · exact regsKeptBut_writeBack (s := u) hrn moved
  · intro x
    exact (iff_of_eq (congrArg (x ∈ ·) hstale)).trans ((mem_insertStale ..).trans or_comm)
  · exact congrArg (· + 4) (writeBack_pc u pre wb rn moved)

end

/-! ### The uses that are allowed -/

section
variable {k : HalfKind} {c : Cond} {up : Bool} {rn rd : RegNo} {pre : Option Bool} {o : HalfOffset} {s : State}

/-- In both offset forms an instruction whose condition passes is one operation on the offset's value (R371). -/
theorem exec_half_of_not_forbidden (hc : conditionPassed c s.cpsr = true) (h : ¬ HalfForbidden s k up rn rd pre o) :
    exec (half k c up rn rd pre o) s
      = halfOp k pre.isSome up (pre.getD false) rn rd (halfOffsetValue s o) s := by
  simp only [HalfForbidden, not_or] at h
  obtain ⟨-, -, -, -, hoff⟩ := h
  cases o with
  | imm v =>
    rw [exec_half_imm, whenPassed_pass hc, halfOffsetValue, BitVec.ofNat_toNat]
  | reg rm =>
    obtain ⟨hrm, hpost⟩ := not_or.mp hoff
    have hne : pre.isSome = false → rm ≠ rn := fun hp e =>
      hpost ⟨Option.not_isSome_iff_eq_none.mp (Bool.eq_false_iff.mp hp), e⟩
    rw [exec_half_reg, whenPassed_pass hc, checkOffset_pass hrm hne]
    rfl

/-- Bit 0 of an address is set exactly when the address is odd. -/
theorem getLsbD_zero_eq_false {a : Word} : a.getLsbD 0 = false ↔ ¬ a.toNat % 2 = 1 := by
  rw [BitVec.getLsbD, Nat.testBit_zero, decide_eq_false_iff_not]

/-- What an allowed use says of its operands (R378, R380). -/
theorem operands_of_halfAllowed (h : HalfAllowed s k up rn rd pre o) :
    rd ≠ 15 ∧ (writesBack pre.isSome (pre.getD false) = true → rn ≠ 15)
      ∧ (k ≠ .strh → writesBack pre.isSome (pre.getD false) = true → rd ≠ rn)
      ∧ (k = .strh → (halfAddress s up rn pre o).getLsbD 0 = false) := by
  obtain ⟨hok, -⟩ := h
  simp only [HalfForbidden, not_or, not_and] at hok
  obtain ⟨hrd, hbase, hload, hodd, -⟩ := hok
  rw [writesBack_half, getLsbD_zero_eq_false]
  exact ⟨hrd, hbase, hload, hodd⟩

theorem checkHalf_pass {load pre wb : Bool} (hrd : rd ≠ 15) (hrn : writesBack pre wb = true → rn ≠ 15)
    (hne : load = true → writesBack pre wb = true → rd ≠ rn) (h26 : is26 s.cpsr.mode = true → rn ≠ 15) (body : Result) :
    checkHalf load pre wb rn rd s body = body := by
  have hbase : (writesBack pre wb && rn == 15) = false := by simpa using hrn
  have hload : (load && writesBack pre wb && rd == rn) = false := by simpa using hne
  have hread := readsPc26_eq_false fun h => beq_false_of_ne (h26 h)
  rw [checkHalf, beq_false_of_ne hrd, hbase, hload, hread]
  rfl

/-! ### The accesses -/

theorem loadHalf_of_aborts {a : Word} (h : requestAborts s .loadH (isPrivileged s.cpsr.mode) a = true)
    (extend : Half → Word) : loadHalf s a extend = none := if_pos h

/-- A halfword load from an odd address answers, with a value that nothing fixes (R379, D26). -/
theorem loadHalf_of_clear {a : Word} (h : requestAborts s .loadH (isPrivileged s.cpsr.mode) a = false)
    (extend : Half → Word) :
    ∃ v, loadHalf s a extend = some v ∧ (a.toNat % 2 = 0 → v = extend (halfAt s a)) := by
  rw [loadHalf, privileged, h, if_neg Bool.false_ne_true]
  cases hodd : a.getLsbD 0 with
  | true =>
    refine ⟨_, rfl, fun heven => ?_⟩
    rw [getLsbD_zero_eq_false.mpr (by omega)] at hodd
    exact absurd hodd Bool.false_ne_true
  | false => exact ⟨_, rfl, fun _ => rfl⟩

/-- The three loads are one operation, with the access each makes (R373 to R375). -/
theorem halfOp_load (hk : k ≠ .strh) (s : State) (a : Word) :
    ∃ access : Word → Option Word,
      (∀ pre up wb rn rd off, halfOp k pre up wb rn rd off s = loadExtendedReg pre up wb rn rd off access s)
      ∧ (requestAborts s (halfRequest k) (isPrivileged s.cpsr.mode) a = true → access a = none)
      ∧ (requestAborts s (halfRequest k) (isPrivileged s.cpsr.mode) a = false →
        ∃ v, access a = some v ∧ HalfLoaded s k a v) := by
  cases k with
  | ldrh =>
    refine ⟨halfwordAccess s, fun _ _ _ _ _ _ => rfl, fun h => loadHalf_of_aborts h _, fun h => ?_⟩
    obtain ⟨v, hv, heven⟩ := loadHalf_of_clear h _
    refine ⟨v, hv, fun ha => ?_⟩
    rw [heven ha, BitVec.toNat_setWidth_of_le (by decide)]
  | ldrsb =>
    refine ⟨signedByteAccess s, fun _ _ _ _ _ _ => rfl, fun h => ?_, fun h => ?_⟩
    · exact congrArg (Option.map _) (if_pos h)
    · refine ⟨(byteAt s a).signExtend 32, ?_, BitVec.toInt_signExtend_of_le (by decide)⟩
      exact congrArg (Option.map _) (loadByte_eq_some.mpr ⟨h, rfl⟩)
  | ldrsh =>
    refine ⟨signedHalfwordAccess s, fun _ _ _ _ _ _ => rfl, fun h => loadHalf_of_aborts h _, fun h => ?_⟩
    obtain ⟨v, hv, heven⟩ := loadHalf_of_clear h _
    refine ⟨v, hv, fun ha => ?_⟩
    rw [heven ha, BitVec.toInt_signExtend_of_le (by decide)]
  | strh => exact absurd rfl hk

theorem storeHalf_of_aborts {a : Word} (h : requestAborts s .storeH (isPrivileged s.cpsr.mode) a = true) (v : Half) :
    Machine.storeHalf s a v = none := if_pos h

theorem setHalf_eq (s : State) (a : Word) (v : Half) : setHalf s a v = { s with mem := (setHalf s a v).mem } := by
  unfold setHalf
  split <;> rfl

theorem halfAt_congr {t : State} (hm : t.mem = s.mem) (hb : t.bigend = s.bigend) (a : Word) :
    halfAt t a = halfAt s a := by
  rw [halfAt, halfAt, hb, byteAt_congr hm, byteAt_congr hm]

/-- What is stored is Rd, but for a base that is written back (R345, D24). -/
theorem storedValue_of_kept {pre wb : Bool} (h : ¬ (writesBack pre wb = true ∧ rd = rn)) (s : State) :
    storedValue s pre wb rn rd = readReg s .d rd :=
  if_neg (by simpa using h)

theorem bigend_of_storeFrame {t : State} {wb : Bool} {moved a : Word} (h : StoreFrame s t wb rn moved a) :
    t.bigend = s.bigend := by
  obtain ⟨-, -, -, -, -, ⟨⟨-, -, -, hbig, -⟩, -⟩, -⟩ := h
  exact hbig

end

/-! ### The operations -/

section
variable {pre up wb : Bool} {rn rd : RegNo} {off : Word} {s : State}
  (hrd : rd ≠ 15) (hrn : writesBack pre wb = true → rn ≠ 15) (h26 : is26 s.cpsr.mode = true → rn ≠ 15)
include hrd hrn h26

theorem loadExtendedReg_of_none (hne : writesBack pre wb = true → rd ≠ rn) {access : Word → Option Word}
    (h : access (transferAddress pre up (readReg s .n rn) off) = none) :
    loadExtendedReg pre up wb rn rd off access s = .next (takeDataAbort s) := by
  rw [loadExtendedReg, checkHalf_pass hrd hrn (fun _ => hne) h26]
  dsimp only
  rw [h]

theorem loadExtendedReg_of_some (hne : writesBack pre wb = true → rd ≠ rn) {access : Word → Option Word} {v : Word}
    (h : access (transferAddress pre up (readReg s .n rn) off) = some v) :
    loadExtendedReg pre up wb rn rd off access s
      = advance (writeReg (writeBack s pre wb rn (indexed up (readReg s .n rn) off)) rd v) := by
  rw [loadExtendedReg, checkHalf_pass hrd hrn (fun _ => hne) h26]
  dsimp only
  rw [h]

variable (heven : (transferAddress pre up (readReg s .n rn) off).getLsbD 0 = false)
include heven

theorem storeHalfReg_of_aborts
    (h : requestAborts s .storeH (isPrivileged s.cpsr.mode) (transferAddress pre up (readReg s .n rn) off) = true) :
    storeHalfReg pre up wb rn rd off s = .next (takeDataAbort s) := by
  rw [storeHalfReg, checkHalf_pass hrd hrn (fun h => absurd h Bool.false_ne_true) h26]
  dsimp only
  rw [heven, refuseIf_false, storeHalf_of_aborts h]

theorem storeHalfReg_of_clear
    (h : requestAborts s .storeH (isPrivileged s.cpsr.mode) (transferAddress pre up (readReg s .n rn) off) = false) :
    let a := transferAddress pre up (readReg s .n rn) off
    storeHalfReg pre up wb rn rd off s
      = advance (writeBack (markStale (setHalf s a (field (storedValue s pre wb rn rd) 0 16)) a) pre wb rn
          (indexed up (readReg s .n rn) off)) := by
  rw [storeHalfReg, checkHalf_pass hrd hrn (fun h => absurd h Bool.false_ne_true) h26]
  dsimp only
  rw [heven, refuseIf_false, storeHalf_eq_some.mpr ⟨h, rfl⟩]

end

/-! ### The obligations -/

/-- Settles O27: the three loads are one operation, whose end is `advance_writeReg_writeBack`. -/
theorem loadHalfOrSigned : Obligations.LoadHalfOrSigned := by
  intro k c up rn rd pre o s hk hc hallowed i a
  obtain ⟨hrd, hrn, hne, -⟩ := operands_of_halfAllowed hallowed
  obtain ⟨hok, h26⟩ := hallowed
  obtain ⟨access, hop, haborts, hclear⟩ := halfOp_load hk s a
  have hexec : exec i s = _ := (exec_half_of_not_forbidden hc hok).trans (hop ..)
  rw [hexec, ← writesBack_half]
  refine ⟨fun h => ?_, fun h hf => ?_⟩
  · rw [loadExtendedReg_of_none hrd hrn h26 (hne hk) (haborts h)]
    exact ⟨_, rfl, dataAborted_takeDataAbort s⟩
  · obtain ⟨v, hv, hloaded⟩ := hclear h
    obtain ⟨t, ht, hdest, hbase, hframe⟩ := advance_writeReg_writeBack hf hrd hrn (hne hk) (halfBase s up rn o) v
    rw [loadExtendedReg_of_some hrd hrn h26 (hne hk) hv]
    exact ⟨t, v, ht, hdest, hloaded, hbase, hframe⟩

/-- Settles O28: the halfword is written first, and the write-back leaves memory. (In this namespace the bare name is the
model's function.) -/
theorem HalfTransfer.storeHalf : Obligations.StoreHalf := by
  intro c up rn rd pre o s hc hallowed i a
  obtain ⟨hrd, hrn, -, heven⟩ := operands_of_halfAllowed hallowed
  obtain ⟨hok, h26⟩ := hallowed
  have hexec : exec i s = storeHalfReg .. := exec_half_of_not_forbidden hc hok
  rw [hexec, ← writesBack_half]
  refine ⟨fun h => ?_, fun h hf => ?_⟩
  · rw [storeHalfReg_of_aborts hrd hrn h26 (heven rfl) h]
    exact ⟨_, rfl, dataAborted_takeDataAbort s⟩
  · let v := field (storedValue s pre.isSome (pre.getD false) rn rd) 0 16
    obtain ⟨t, ht, hmem, hframe⟩ := advance_writeBack_markStale hf hrn (setHalf s a v).mem a (halfBase s up rn o)
    rw [← setHalf_eq] at ht
    rw [storeHalfReg_of_clear hrd hrn h26 (heven rfl) h]
    refine ⟨t, ht, fun hkept => ?_, ?_, hframe⟩
    · have hbig : t.bigend = (setHalf s a v).bigend := by rw [bigend_of_storeFrame hframe, setHalf_bigend]
      calc halfAt t a = v := (halfAt_congr hmem hbig a).trans (halfAt_setHalf s a v)
        _ = (readReg s .d rd).extractLsb' 0 16 := congrArg (field · 0 16) (storedValue_of_kept hkept s)
    · exact fun x hx => (byteAt_congr hmem x).trans (memKeptOutside_setHalf s a v x hx)

end Sys2Proof.Machine
end

section
/-! SUPPORT. The loads of a block transfer (spec/47_block_data_transfer.md R391, R394, R396, R403, R405): the register list,
the words read for it, and the registers that hold them afterwards, by the mode's own view of the register numbers or
User's. -/

namespace Sys2Proof.Machine

open Sys2Proof.Claims

/-! ### The register list -/

theorem mem_registerList {list : BitVec 16} {i : RegNo} : i ∈ registerList list ↔ list.getLsbD i.toNat = true := by
  simp only [registerList, List.mem_map, List.mem_filter, List.mem_range]
  constructor
  · rintro ⟨k, ⟨hk, hbit⟩, rfl⟩
    rwa [BitVec.toNat_ofNat, Nat.mod_eq_of_lt hk]
  · exact fun h => ⟨i.toNat, ⟨i.isLt, h⟩, by simp⟩

theorem nodup_registerList (list : BitVec 16) : (registerList list).Nodup := by
  refine (List.nodup_range.filter _).map_on fun i hi j hj h => ?_
  have hi' := List.mem_range.mp (List.mem_of_mem_filter hi)
  have hj' := List.mem_range.mp (List.mem_of_mem_filter hj)
  bv_omega

theorem length_registerList_le (list : BitVec 16) : (registerList list).length ≤ 16 := by
  rw [registerList, List.length_map]
  exact (List.length_filter_le ..).trans List.length_range.le

theorem length_registerList_pos {list : BitVec 16} (h : list.getLsbD 15 = true) : 0 < (registerList list).length :=
  List.length_pos_of_mem (mem_registerList (i := 15).mpr h)

/-! ### The words read -/

section
variable {s : State} {a : Word} {l : List RegNo}

theorem map_fst_blockWords : (blockWords s a l).map Prod.fst = l := by
  induction l generalizing a with
  | nil => rfl
  | cons i l ih => exact congrArg (i :: ·) ih

theorem mem_take_blockWords {j : Nat} {p : RegNo × Word} (h : p ∈ (blockWords s a l).take j) :
    ∃ k < j, l[k]? = some p.1 ∧ p.2 = wordAt s (blockAt a k) := by
  obtain ⟨k, hk⟩ := List.mem_iff_getElem?.mp h
  rw [List.getElem?_take, Option.ite_none_right_eq_some, blockWords_getElem?] at hk
  obtain ⟨hkj, hp⟩ := hk
  obtain ⟨i, hi, rfl⟩ := Option.map_eq_some_iff.mp hp
  exact ⟨k, hkj, hi, rfl⟩

theorem mem_blockWords_of_getElem? {k : Nat} {i : RegNo} (h : l[k]? = some i) :
    (i, wordAt s (blockAt a k)) ∈ blockWords s a l := by
  refine List.mem_of_getElem? (i := k) ?_
  rw [blockWords_getElem?, h]
  rfl

/-- The word for R15 is the one of the last transfer (R396, R398). -/
theorem loadedPc_blockWords {list : BitVec 16} (h : list.getLsbD 15 = true) (s : State) (a : Word) :
    loadedPc (blockWords s a (registerList list)) = lastWord s list a := by
  have hlast : (registerList list).length - 1 < (registerList list).length :=
    Nat.sub_one_lt_of_lt (length_registerList_pos h)
  rw [loadedPc, List.getLast?_eq_getElem?, blockWords_length, blockWords_getElem?, List.getElem?_eq_getElem hlast]
  rfl

end

/-! ### Registers written through a view -/

/-- A register number written through a view of the numbers; R15, which a view does not name, is left out (R33). -/
def setView (phys : RegNo → Option PhysReg) (s : State) (i : RegNo) (v : Word) : State :=
  (phys i).elim s fun r => setPhys s r v

theorem writeReg_eq_setView (s : State) (i : RegNo) (v : Word) : writeReg s i v = setView (reg s) s i v := by
  rw [writeReg, setView, reg]
  cases physReg s.cpsr.mode i <;> rfl

theorem writeUserReg_eq_setView : writeUserReg = setView (physReg .usr) := by
  funext s i v
  rw [writeUserReg, setView]
  cases physReg .usr i <;> rfl

/-- The loads change no mode, so the view at their start serves all of them. -/
theorem writeLoaded_writeReg_eq_setView (s : State) (l : List (RegNo × Word)) :
    writeLoaded writeReg s l = writeLoaded (setView (reg s)) s l := by
  induction l generalizing s with
  | nil => rfl
  | cons p l ih =>
    have hview : reg (writeReg s p.1 p.2) = reg s := congrArg physReg (congrArg Cpsr.mode (writeReg_cpsr s p.1 p.2))
    have htail := ih (writeReg s p.1 p.2)
    rw [hview, writeReg_eq_setView] at htail
    exact (congrArg (writeLoaded writeReg · l) (writeReg_eq_setView s p.1 p.2)).trans htail

section
variable {phys : RegNo → Option PhysReg} {s : State} {l : List (RegNo × Word)}

theorem setView_of_phys {i : RegNo} {r : PhysReg} (h : phys i = some r) (s : State) (v : Word) :
    setView phys s i v = setPhys s r v := by
  rw [setView, h, Option.elim_some]

theorem setView_eq (s : State) (i : RegNo) (v : Word) :
    setView phys s i v = { s with regs := (setView phys s i v).regs } := by
  rw [setView]
  cases phys i with
  | none => rfl
  | some r => cases r <;> rfl

/-- The loads change general registers alone. -/
theorem writeLoaded_setView_eq (s : State) (l : List (RegNo × Word)) :
    writeLoaded (setView phys) s l = { s with regs := (writeLoaded (setView phys) s l).regs } := by
  induction l generalizing s with
  | nil => rfl
  | cons p l ih =>
    let rest := writeLoaded (setView phys) (setView phys s p.1 p.2) l
    exact (ih _).trans (congrArg (fun t : State => { t with regs := rest.regs }) (setView_eq s p.1 p.2))

theorem getPhys_setView_of_ne {i : RegNo} {r : PhysReg} (h : phys i ≠ some r) (s : State) (v : Word) :
    getPhys (setView phys s i v) r = getPhys s r := by
  cases hi : phys i with
  | none => rw [setView, hi, Option.elim_none]
  | some q => rw [setView_of_phys hi, getPhys_setPhys_other s v fun e => h (hi.trans (congrArg some e.symm))]

theorem getPhys_writeLoaded_of_unnamed {r : PhysReg} (h : ∀ p ∈ l, phys p.1 ≠ some r) :
    getPhys (writeLoaded (setView phys) s l) r = getPhys s r := by
  induction l generalizing s with
  | nil => rfl
  | cons p l ih =>
    obtain ⟨hp, hl⟩ := List.forall_mem_cons.mp h
    exact (ih hl).trans (getPhys_setView_of_ne hp s p.2)

/-- A view in which no two numbers name one register. -/
def ViewInjective (phys : RegNo → Option PhysReg) : Prop := ∀ i j r, phys i = some r → phys j = some r → i = j

theorem viewInjective_physReg (m : Mode) : ViewInjective (physReg m) := fun _ _ _ => physReg_inj

theorem getPhys_writeLoaded_of_mem (hinj : ViewInjective phys) (hl : (l.map Prod.fst).Nodup) {i : RegNo} {v : Word}
    (hmem : (i, v) ∈ l) {r : PhysReg} (hr : phys i = some r) : getPhys (writeLoaded (setView phys) s l) r = v := by
  induction l generalizing s with
  | nil => exact absurd hmem List.not_mem_nil
  | cons p l ih =>
    obtain ⟨hp, hl⟩ := List.nodup_cons.mp hl
    rcases List.mem_cons.mp hmem with rfl | hmem
    · have hlater : ∀ q ∈ l, phys q.1 ≠ some r := fun q hq hqr =>
        hp (List.mem_map.mpr ⟨q, hq, hinj _ _ _ hqr hr⟩)
      calc getPhys (writeLoaded (setView phys) s ((i, v) :: l)) r
          = getPhys (setView phys s i v) r := getPhys_writeLoaded_of_unnamed hlater
        _ = v := by rw [setView_of_phys hr, getPhys_setPhys_same]
    · exact ih hl hmem

end

/-! ### The loads of a list -/

section
variable {phys : RegNo → Option PhysReg} {s u : State} {list : BitVec 16} {start : Word}

theorem loaded_writeLoaded (hinj : ViewInjective phys) :
    Loaded phys s (writeLoaded (setView phys) u (blockWords s start (registerList list))) list start := by
  intro k i r hk hr
  refine getPhys_writeLoaded_of_mem hinj ?_ (mem_blockWords_of_getElem? hk) hr
  rw [map_fst_blockWords]
  exact nodup_registerList list

theorem getPhys_writeLoaded_of_unlisted {r : PhysReg} (h : ∀ i, phys i = some r → list.getLsbD i.toNat = false) :
    getPhys (writeLoaded (setView phys) u (blockWords s start (registerList list))) r = getPhys u r := by
  refine getPhys_writeLoaded_of_unnamed fun p hp hr => ?_
  have hlisted := List.mem_map_of_mem (f := Prod.fst) hp
  rw [map_fst_blockWords] at hlisted
  exact Bool.eq_false_iff.mp (h p.1 hr) (mem_registerList.mp hlisted)

/-- All that an LDM into the current bank leaves, but for the CPSR and the PC (R394, R396). -/
def BlockLoaded (s t : State) (up wb : Bool) (rn : RegNo) (list : BitVec 16) (start : Word) : Prop :=
  Loaded (reg s) s t list start ∧ (wb = true → Holds s t rn (backOf s up rn list))
    ∧ UnlistedKept (reg s) s t list (baseTarget s wb rn) ∧ JumpFrame s t

theorem BlockLoaded.withControl {t : State} {up wb : Bool} {rn : RegNo} (h : BlockLoaded s t up wb rn list start)
    (p : Cpsr) (a : Word) (f : NextFetch) :
    BlockLoaded s { t with cpsr := p, pc := a, nextFetch := f } up wb rn list start := by
  have hphys : ∀ r, getPhys { t with cpsr := p, pc := a, nextFetch := f } r = getPhys t r := getPhys_congr rfl
  obtain ⟨hloaded, hback, hkept, hframe⟩ := h
  refine ⟨fun k i r hk hr => (hphys r).trans (hloaded k i r hk hr), fun hwb => ?_,
    fun r hr hb => (hphys r).trans (hkept r hr hb), hframe⟩
  obtain ⟨r, hr, hv⟩ := hback hwb
  exact ⟨r, hr, (hphys r).trans hv⟩

theorem BlockLoaded.spsr_eq {t : State} {up wb : Bool} {rn : RegNo} (h : BlockLoaded s t up wb rn list start) :
    t.spsr = s.spsr := by
  obtain ⟨-, -, -, hspsr, -⟩ := h
  exact hspsr

/-- The state an LDM into the current bank leaves before its PC moves. -/
def blockLoadedState (s : State) (up wb : Bool) (rn : RegNo) (list : BitVec 16) (start : Word) : State :=
  loadedState s up wb rn (readReg s .n rn) (blockWords s start (registerList list))

section
variable (s : State) (up wb : Bool) (rn : RegNo) (list : BitVec 16) (start : Word)

/-- The base is written back first, and the loads follow through the view of the mode. -/
theorem blockLoadedState_eq : blockLoadedState s up wb rn list start
    = writeLoaded (setView (reg s)) (writeBack s true wb rn (backOf s up rn list))
        (blockWords s start (registerList list)) := by
  have hview : reg (writeBack s true wb rn (backOf s up rn list)) = reg s :=
    congrArg physReg (congrArg Cpsr.mode (writeBack_cpsr ..))
  rw [blockLoadedState, loadedState, blockWords_length, ← hview]
  exact writeLoaded_writeReg_eq_setView ..

@[simp] theorem blockLoadedState_pc : (blockLoadedState s up wb rn list start).pc = s.pc := loadedState_pc ..

@[simp] theorem blockLoadedState_cpsr : (blockLoadedState s up wb rn list start).cpsr = s.cpsr := by
  rw [blockLoadedState_eq, writeLoaded_setView_eq]
  exact writeBack_cpsr ..

variable {s rn list wb}

/-- A base that is written back is not in the list (R399), so the loads keep it. -/
theorem blockLoaded_blockLoadedState (hrn : rn ≠ 15) (hbase : ¬ (wb = true ∧ list.getLsbD rn.toNat = true)) :
    BlockLoaded s (blockLoadedState s up wb rn list start) up wb rn list start := by
  rw [blockLoadedState_eq]
  refine ⟨loaded_writeLoaded (viewInjective_physReg _), fun hwb => ?_, fun r hr hb => ?_, ?_⟩
  · obtain ⟨r, hr, hv⟩ := holds_writeBack (pre := true) (fun _ => hrn) (backOf s up rn list) hwb
    have hunlisted : ∀ i, reg s i = some r → list.getLsbD i.toNat = false := fun i hi =>
      Bool.eq_false_iff.mpr fun hl => hbase ⟨hwb, physReg_inj hi hr ▸ hl⟩
    exact ⟨r, hr, (getPhys_writeLoaded_of_unlisted hunlisted).trans hv⟩
  · exact (getPhys_writeLoaded_of_unlisted hr).trans (regsKeptBut_writeBack (fun _ => hrn) (backOf s up rn list) r hb)
  · rw [writeLoaded_setView_eq]
    exact jumpFrame_writeBack s true wb rn (backOf s up rn list)

end
end

/-! ### The reads of a block -/

section
variable {phys : RegNo → Option PhysReg} {pre up : Bool} {rn : RegNo} {list : BitVec 16} {s : State}

theorem blockLoad_of_not_aborts {k : Word → List (RegNo × Word) → Result}
    (h : ∀ i < (registerList list).length, ¬ ReadAborts s (firstOf s pre up rn list) (registerList list).length i) :
    blockLoad phys pre up rn list s k
      = k (readReg s .n rn) (blockWords s (firstOf s pre up rn list) (registerList list)) :=
  blockLoad_clear fun i hi => Bool.eq_false_iff.mpr (h i hi)

/-- The state in which the Data Abort at transfer `j` of a block load is taken (R405). -/
def AbortedLoad (phys : RegNo → Option PhysReg) (s u : State) (rn : RegNo) (list : BitVec 16) (start : Word) (j : Nat) :
    Prop :=
  u.pc = s.pc ∧ u.cpsr = s.cpsr ∧ u.spsr = s.spsr ∧ u.stale = s.stale ∧ MemKept s u ∧ RestKept s u
    ∧ (∀ r, some r = reg s rn → getPhys u r = getPhys s r)
    ∧ (∀ k i r, k < j → (registerList list)[k]? = some i → phys i = some r →
      getPhys u r = getPhys s r ∨ getPhys u r = wordAt s (blockAt start k))
    ∧ ∀ r, (∀ k i, k < j → (registerList list)[k]? = some i → phys i ≠ some r) → getPhys u r = getPhys s r

theorem abortedLoad_keepOrLoad (hinj : ViewInjective phys) (s : State) (rn : RegNo) (start : Word) (j : Nat) :
    AbortedLoad phys s (keepOrLoad phys (reg s rn) s ((blockWords s start (registerList list)).take j)) rn list start
      j := by
  obtain ⟨hstate, hbase, hregs⟩ := keepOrLoad_effect phys (reg s rn) s ((blockWords s start (registerList list)).take j)
  generalize keepOrLoad phys (reg s rn) s ((blockWords s start (registerList list)).take j) = u at hstate hbase hregs ⊢
  have hframe : JumpFrame s u := hstate ▸ jumpFrame_refl s
  obtain ⟨hspsr, hstale, hmem, hrest⟩ := hframe
  refine ⟨by rw [hstate], by rw [hstate], hspsr, hstale, hmem, hrest, hbase, fun k i r hkj hk hr => ?_, fun r hr => ?_⟩
  · refine (hregs r).imp_right fun ⟨p, hp, hpr, hv⟩ => ?_
    obtain ⟨k', -, hk', hw⟩ := mem_take_blockWords hp
    rw [hinj _ _ _ hpr hr, ← hk] at hk'
    have hlt : k' < (registerList list).length := (List.getElem?_eq_some_iff.mp (hk'.trans hk)).1
    rw [hv, hw, (List.getElem?_inj hlt (nodup_registerList list)).mp hk']
  · refine (hregs r).resolve_right fun ⟨p, hp, hpr, _⟩ => ?_
    obtain ⟨k, hkj, hk, -⟩ := mem_take_blockWords hp
    exact hr k p.1 hkj hk hpr

/-- A block load whose read `j` is the first that aborts, whatever would have followed its reads. -/
theorem blockLoad_of_aborts (hinj : ViewInjective phys) {k : Word → List (RegNo × Word) → Result} {j : Nat}
    (hj : j < (registerList list).length)
    (ha : ReadAborts s (firstOf s pre up rn list) (registerList list).length j)
    (h : ∀ i < j, ¬ ReadAborts s (firstOf s pre up rn list) (registerList list).length i) :
    ∃ t u, blockLoad phys pre up rn list s k = .next t ∧ DataAborted u t
      ∧ AbortedLoad phys s u rn list (firstOf s pre up rn list) j :=
  ⟨_, _, blockLoad_abort hj ha fun i hi => Bool.eq_false_iff.mpr (h i hi), dataAborted_takeDataAbort _,
    abortedLoad_keepOrLoad hinj ..⟩

end

end Sys2Proof.Machine
end

section
/-! SUPPORT. The stores of a block transfer (spec/47_block_data_transfer.md R392, R394, R397, R406): the words in memory and
in the stale set after any number of the transfers, and the rest of the state, which they keep. -/

namespace Sys2Proof.Machine

open Sys2Proof.Claims

/-! ### The words of a block -/

theorem blockAt_zero (a : Word) : blockAt a 0 = a := BitVec.add_zero a

theorem blockAt_succ (a : Word) (k : Nat) : blockAt (a + 4) k = blockAt a (k + 1) := block_next a k

/-- The words of a block lie a multiple of four bytes apart, from an unaligned base too (R395, D5). -/
theorem wordBase_blockAt (a : Word) (k : Nat) : wordBase (blockAt a k) = blockAt (wordBase a) k := by
  apply BitVec.eq_of_toNat_eq
  rw [wordBase_toNat, blockAt, blockAt, BitVec.toNat_add, BitVec.toNat_add, wordBase_toNat, BitVec.toNat_ofNat]
  omega

/-- A word is read from its four bytes alone. -/
theorem wordAt_congr_of_bytes {s t : State} {a : Word} (hbig : t.bigend = s.bigend)
    (h : ∀ k < 4, byteAt t (wordBase a + BitVec.ofNat 32 k) = byteAt s (wordBase a + BitVec.ofNat 32 k)) :
    wordAt t a = wordAt s a := by
  refine eq_of_lanes_eq (n := 4) s.bigend fun k hk => ?_
  have ht := wordAt_lane t a hk
  rw [hbig] at ht
  rw [ht, wordAt_lane s a hk, h k hk]

section
variable {s : State} {a : Word} {l : List Word}

/-- A byte outside all the words of a block store is kept. -/
theorem byteAt_storeBlock_of_outside {x : Word} (h : ∀ k < l.length, 4 ≤ (x - wordBase (blockAt a k)).toNat) :
    byteAt (storeBlock s a l) x = byteAt s x := by
  induction l generalizing s a with
  | nil => rfl
  | cons v l ih =>
    have hfirst := h 0 (by simp)
    rw [blockAt_zero] at hfirst
    have hrest : ∀ k < l.length, 4 ≤ (x - wordBase (blockAt (a + 4) k)).toNat := fun k hk =>
      blockAt_succ a k ▸ h (k + 1) (by simpa using hk)
    calc byteAt (storeBlock s a (v :: l)) x
        = byteAt (markStale (setWord s a v) a) x := ih hrest
      _ = byteAt (setWord s a v) x := byteAt_congr rfl x
      _ = byteAt s x := memKeptOutside_setWord s a v x hfirst

theorem storeBlock_bigend : (storeBlock s a l).bigend = s.bigend := by rw [storeBlock_eq]

/-- A word once stored is kept by the later stores of its block. -/
theorem wordAt_storeBlock_of_lower (h : 4 * (l.length + 1) ≤ 2 ^ 32) :
    wordAt (storeBlock s (a + 4) l) a = wordAt s a := by
  refine wordAt_congr_of_bytes storeBlock_bigend fun i hi => byteAt_storeBlock_of_outside fun k hk => ?_
  rw [blockAt_succ, wordBase_blockAt, blockAt]
  bv_omega

theorem wordAt_storeBlock (h : 4 * l.length ≤ 2 ^ 32) {k : Nat} {v : Word} (hk : l[k]? = some v) :
    wordAt (storeBlock s a l) (blockAt a k) = v := by
  induction l generalizing s a k with
  | nil => cases hk
  | cons w l ih =>
    cases k with
    | zero =>
      obtain rfl : w = v := by simpa using hk
      rw [blockAt_zero]
      calc wordAt (storeBlock s a (w :: l)) a
          = wordAt (markStale (setWord s a w) a) a := wordAt_storeBlock_of_lower h
        _ = wordAt (setWord s a w) a := wordAt_congr rfl rfl a
        _ = w := wordAt_setWord s a w
    | succ k =>
      rw [← blockAt_succ]
      exact ih (by rw [List.length_cons] at h; omega) (by simpa using hk)

theorem mem_stale_storeBlock {x : Nat} :
    x ∈ (storeBlock s a l).stale ↔ x ∈ s.stale ∨ ∃ k < l.length, x = (wordBase (blockAt a k)).toNat := by
  induction l generalizing s a with
  | nil => simp [storeBlock]
  | cons v l ih =>
    have hmark : x ∈ (markStale (setWord s a v) a).stale ↔ x ∈ s.stale ∨ x = (wordBase a).toNat := by
      rw [markStale_stale, setWord_stale, mem_insertStale, or_comm]
    rw [List.length_cons, Nat.exists_lt_succ_left, blockAt_zero, ← or_assoc, ← hmark]
    simp only [← blockAt_succ]
    exact ih

end

/-! ### The stores of a list -/

section
variable {s : State} {list : BitVec 16} {start : Word} {j : Nat} {f : RegNo → Word} {value : RegNo → Option Word}

theorem storedWords_congr {t u : State} (h : StoredWords s u list start j value) (hmem : t.mem = u.mem)
    (hstale : t.stale = u.stale) (hbig : t.bigend = u.bigend) : StoredWords s t list start j value := by
  obtain ⟨hwords, hbytes, hmarks⟩ := h
  refine ⟨fun k i v hk hi hv => ?_, fun a ha => ?_, fun x => ?_⟩
  · rw [wordAt_congr hmem hbig, hwords k i v hk hi hv]
  · rw [byteAt_congr hmem, hbytes a ha]
  · rw [hstale, hmarks]

/-- The first `j` stores of a list, where the values are those the rule states. -/
theorem storedWords_storeBlock (hj : j ≤ (registerList list).length) (hf : ∀ i v, value i = some v → f i = v) :
    StoredWords s (storeBlock s start (((registerList list).map f).take j)) list start j value := by
  have hlength : (((registerList list).map f).take j).length = j := by
    rw [List.length_take, List.length_map, Nat.min_eq_left hj]
  have hsize : 4 * (((registerList list).map f).take j).length ≤ 2 ^ 32 := by
    have := length_registerList_le list
    omega
  refine ⟨fun k i v hk hi hv => wordAt_storeBlock hsize ?_, fun a ha => ?_, fun x => ?_⟩
  · rw [List.getElem?_take_of_lt hk, List.getElem?_map, hi, Option.map_some, hf i v hv]
  · exact byteAt_storeBlock_of_outside (by rwa [hlength])
  · rw [mem_stale_storeBlock, hlength]

/-- All the stores of a list. -/
theorem storedWords_storeBlock_all (hf : ∀ i v, value i = some v → f i = v) :
    StoredWords s (storeBlock s start ((registerList list).map f)) list start (registerList list).length value := by
  have h := storedWords_storeBlock (s := s) (start := start) (list := list) le_rfl hf
  rwa [List.take_of_length_le (by rw [List.length_map])] at h

theorem onlyMemory_storeBlock (s : State) (a : Word) (l : List Word) : OnlyMemory s (storeBlock s a l) [] := by
  rw [storeBlock_eq]
  obtain ⟨-, -, -, hrest⟩ := jumpFrame_refl s
  exact ⟨fun r _ => getPhys_congr rfl r, rfl, rfl, hrest⟩

theorem storeBlock_pc (s : State) (a : Word) (l : List Word) : (storeBlock s a l).pc = s.pc := by
  rw [storeBlock_eq]

end

/-! ### The writes of a block -/

/-- The end of an instruction that changed memory and the stale set alone: the base written back, and the next
instruction. -/
theorem advance_writeBack_withMemory {s : State} (hf : Fits s) (wb : Bool) {rn : RegNo} (hrn : rn ≠ 15) (m : Memory)
    (l : List Nat) (back : Word) :
    ∃ t, advance (writeBack { s with mem := m, stale := l } true wb rn back) = .next t ∧ t.mem = m ∧ t.stale = l
      ∧ (wb = true → Holds s t rn back) ∧ OnlyMemory s t (baseTarget s wb rn) ∧ Advanced s t := by
  let u : State := { s with mem := m, stale := l }
  have hfits : Fits (writeBack u true wb rn back) := by
    rw [Fits, writeBack_cpsr, writeBack_pc]
    exact hf
  obtain ⟨hspsr, hstale, -, hrest⟩ := jumpFrame_writeBack u true wb rn back
  refine ⟨_, advance_of_fits hfits, writeBack_mem .., hstale, ?_, ⟨?_, writeBack_cpsr .., hspsr, hrest⟩, ?_, rfl⟩
  · exact holds_writeBack (s := u) (pre := true) (fun _ => hrn) back
  · exact regsKeptBut_writeBack (s := u) (pre := true) (fun _ => hrn) back
  · exact congrArg (· + 4) (writeBack_pc u true wb rn back)

section
variable {pre up wb : Bool} {rn : RegNo} {list : BitVec 16} {s : State} {f : Word → RegNo → Word}
  {value : RegNo → Option Word} (hvalue : ∀ i v, value i = some v → f (readReg s .n rn) i = v)

include hvalue

theorem blockStore_of_not_aborts (hf : Fits s) (hrn : rn ≠ 15)
    (h : ∀ i < (registerList list).length, ¬ WriteAborts s (firstOf s pre up rn list) (registerList list).length i) :
    ∃ t, blockStore pre up wb rn list f s = .next t
      ∧ StoredWords s t list (firstOf s pre up rn list) (registerList list).length value
      ∧ (wb = true → Holds s t rn (backOf s up rn list)) ∧ OnlyMemory s t (baseTarget s wb rn) ∧ Advanced s t := by
  let u := storeBlock s (firstOf s pre up rn list) ((registerList list).map (f (readReg s .n rn)))
  have hexec : blockStore pre up wb rn list f s = advance (writeBack u true wb rn (backOf s up rn list)) :=
    blockStore_clear fun i hi => Bool.eq_false_iff.mpr (h i hi)
  obtain ⟨t, ht, hmem, hstale, hback, honly, hnext⟩ :=
    advance_writeBack_withMemory hf wb hrn u.mem u.stale (backOf s up rn list)
  have hbig : t.bigend = u.bigend := by
    obtain ⟨-, -, -, ⟨-, -, -, hbig, -⟩, -⟩ := honly
    rw [hbig, storeBlock_bigend]
  rw [hexec, show u = _ from storeBlock_eq ..]
  exact ⟨t, ht, storedWords_congr (storedWords_storeBlock_all hvalue) hmem hstale hbig, hback, honly, hnext⟩

/-- A block store whose write `j` is the first that aborts (R406). -/
theorem blockStore_of_aborts {j : Nat} (hj : j < (registerList list).length)
    (ha : WriteAborts s (firstOf s pre up rn list) (registerList list).length j)
    (h : ∀ i < j, ¬ WriteAborts s (firstOf s pre up rn list) (registerList list).length i) :
    ∃ t u, blockStore pre up wb rn list f s = .next t ∧ DataAborted u t ∧ u.pc = s.pc ∧ OnlyMemory s u []
      ∧ StoredWords s u list (firstOf s pre up rn list) j value :=
  ⟨_, _, blockStore_abort hj ha fun i hi => Bool.eq_false_iff.mpr (h i hi), dataAborted_takeDataAbort _,
    storeBlock_pc .., onlyMemory_storeBlock .., storedWords_storeBlock hj.le hvalue⟩

end

end Sys2Proof.Machine
end

section
/-! SUPPORT. The block transfer instructions (spec/47_block_data_transfer.md R396 to R408): the checks that refuse one, and
what follows its transfers. -/

namespace Sys2Proof.Machine

open Sys2Proof.Claims

/-! ### The ends of a block load -/

/-- What follows the reads of LDM (R396). -/
def finishLdm (up wb : Bool) (rn : RegNo) (list : BitVec 16) (s : State) (base : Word) (l : List (RegNo × Word)) :
    Result :=
  let t := loadedState s up wb rn base l
  if list.getLsbD 15 then .next (branchTo t (loadedPc l)) else advance t

/-- What follows the reads of LDM with S = 1 and R15 in the list (R401, R408). -/
def finishLdmPc (up wb : Bool) (rn : RegNo) (s : State) (base : Word) (l : List (RegNo × Word)) : Result :=
  let t := loadedState s up wb rn base l
  let v := loadedPc l
  if is26 s.cpsr.mode then .next (branchTo (setPsr26 t v) v) else returnFromException t v .blockSBitWithoutSpsr

/-- What follows the reads of LDM with S = 1 and R15 not in the list (R403). -/
def finishLdmUser (s : State) (_base : Word) (l : List (RegNo × Word)) : Result :=
  advance { writeLoaded writeUserReg s l with hazardStep := some (s.tick + 1) }

section
variable {s : State} {up wb : Bool} {rn : RegNo} {list : BitVec 16} {start : Word}

theorem finishLdm_of_not_pc (h15 : list.getLsbD 15 = false) :
    finishLdm up wb rn list s (readReg s .n rn) (blockWords s start (registerList list))
      = advance (blockLoadedState s up wb rn list start) := by
  rw [finishLdm, h15]
  rfl

theorem finishLdm_of_pc (h15 : list.getLsbD 15 = true) :
    finishLdm up wb rn list s (readReg s .n rn) (blockWords s start (registerList list))
      = .next (branchTo (blockLoadedState s up wb rn list start) (lastWord s list start)) := by
  rw [finishLdm, h15, loadedPc_blockWords h15]
  rfl

theorem finishLdmPc_of_is26 (h15 : list.getLsbD 15 = true) (h26 : is26 s.cpsr.mode = true) :
    finishLdmPc up wb rn s (readReg s .n rn) (blockWords s start (registerList list))
      = .next (branchTo (setPsr26 (blockLoadedState s up wb rn list start) (lastWord s list start))
          (lastWord s list start)) := by
  rw [finishLdmPc, h26, loadedPc_blockWords h15]
  rfl

theorem finishLdmPc_of_not_is26 (h15 : list.getLsbD 15 = true) (h32 : is26 s.cpsr.mode = false) :
    finishLdmPc up wb rn s (readReg s .n rn) (blockWords s start (registerList list))
      = returnFromException (blockLoadedState s up wb rn list start) (lastWord s list start) .blockSBitWithoutSpsr := by
  rw [finishLdmPc, h32, loadedPc_blockWords h15]
  rfl

end

/-! ### The checks -/

theorem checkBlock_empty {rn : RegNo} (hrn : rn ≠ 15) (k : Result) : checkBlock rn 0 k = .refused .emptyRegisterList := by
  rw [checkBlock, beq_false_of_ne hrn]
  rfl

/-- Of a list of fifteen registers and a bit for R15, the bit is that of R15. -/
theorem append_getLsbD_fifteen (b : Bool) (short : BitVec 15) :
    (BitVec.ofBool b ++ short : BitVec 16).getLsbD 15 = b := by
  rw [BitVec.getLsbD_append]
  simp

theorem append_getLsbD_of_lt (b : BitVec 1) (short : BitVec 15) {k : Nat} (hk : k < 15) :
    (b ++ short : BitVec 16).getLsbD k = short.getLsbD k := by
  rw [BitVec.getLsbD_append, if_pos hk]

theorem append_getLsbD_regNo (b : BitVec 1) (short : BitVec 15) {rn : RegNo} (hrn : rn ≠ 15) :
    (b ++ short : BitVec 16).getLsbD rn.toNat = short.getLsbD rn.toNat :=
  append_getLsbD_of_lt b short (by bv_omega)

theorem append_one_ne_zero (short : BitVec 15) : (1#1 ++ short : BitVec 16) ≠ 0 := fun h =>
  Bool.false_ne_true ((congrArg (BitVec.getLsbD · 15) h).symm.trans (append_getLsbD_fifteen true short))

theorem append_ne_zero (b : BitVec 1) {short : BitVec 15} (h : short ≠ 0) : (b ++ short : BitVec 16) ≠ 0 := by
  refine fun hz => h (BitVec.eq_of_getLsbD_eq fun k hk => ?_)
  rw [← append_getLsbD_of_lt b short hk, hz]
  simp

section
variable {s : State}

theorem sBitForbidden_eq_false : sBitForbidden s = false ↔ ¬ noSpsr s.cpsr.mode := by
  rw [← sBitForbidden_eq_true, Bool.not_eq_true]

/-- A 26-bit mode needs no SPSR to load R15 with the S bit (R400, R408). -/
theorem returnForbidden_eq_true :
    (!is26 s.cpsr.mode && sBitForbidden s) = true ↔ s.cpsr.mode = .usr ∨ s.cpsr.mode = .sys := by
  rw [Bool.and_eq_true, sBitForbidden_eq_true, noSpsr]
  cases s.cpsr.mode <;> decide

theorem returnForbidden_eq_false :
    (!is26 s.cpsr.mode && sBitForbidden s) = false ↔ s.cpsr.mode ≠ .usr ∧ s.cpsr.mode ≠ .sys := by
  rw [← Bool.not_eq_true, returnForbidden_eq_true, not_or]

theorem returnForbidden_of_currentSpsr {p : Psr} (h : currentSpsr s = some p) :
    (!is26 s.cpsr.mode && sBitForbidden s) = false := by
  rw [sBitForbidden, h, Option.isNone_some, Bool.and_false]

end

/-! ### What an instruction calls -/

section
variable {c : Cond} {pre up wb : Bool} {rn : RegNo} {list : BitVec 16} {short : BitVec 15} {s : State}
  (hc : conditionPassed c s.cpsr = true) (hrn : rn ≠ 15)
include hc hrn

theorem exec_ldm_of_passed (hlist : list ≠ 0) : exec (.ldm c pre up wb rn list) s
    = refuseIf (wb && list.getLsbD rn.toNat) .loadMultipleBaseInList
        (blockLoad (reg s) pre up rn list s (finishLdm up wb rn list s)) :=
  (whenPassed_pass hc).trans (checkBlock_pass hrn hlist)

theorem exec_ldmPc_of_passed : exec (.ldmPc c pre up wb rn short) s
    = refuseIf (!is26 s.cpsr.mode && sBitForbidden s) .blockSBitWithoutSpsr
        (refuseIf (wb && short.getLsbD rn.toNat) .loadMultipleBaseInList
          (blockLoad (reg s) pre up rn (1#1 ++ short) s (finishLdmPc up wb rn s))) :=
  (whenPassed_pass hc).trans (checkBlock_pass hrn (append_one_ne_zero short))

theorem exec_ldmUser_of_passed (hshort : short ≠ 0) : exec (.ldmUser c pre up wb rn short) s
    = refuseIf (sBitForbidden s) .blockSBitWithoutSpsr (refuseIf wb .userBankWriteBack
        (blockLoad (physReg .usr) pre up rn (0#1 ++ short) s (finishLdmUser s))) :=
  (whenPassed_pass hc).trans (checkBlock_pass hrn (append_ne_zero 0#1 hshort))

theorem exec_stm_of_passed (hlist : list ≠ 0) : exec (.stm c pre up wb rn list) s
    = refuseIf (readsPc26 s (list.getLsbD 15)) .r15ReadIn26BitMode
        (blockStore pre up wb rn list (fun base => stmValue s wb rn base (registerList list).head?) s) :=
  (whenPassed_pass hc).trans (checkBlock_pass hrn hlist)

theorem exec_stmUser_of_passed (hlist : list ≠ 0) : exec (.stmUser c pre up wb rn list) s
    = refuseIf (sBitForbidden s) .blockSBitWithoutSpsr (refuseIf wb .userBankWriteBack
        (refuseIf (readsPc26 s (list.getLsbD 15)) .r15ReadIn26BitMode
          (blockStore pre up false rn list (fun _ => readUserReg s) s))) :=
  (whenPassed_pass hc).trans (checkBlock_pass hrn hlist)

/-! The uses the rules allow. -/

theorem exec_ldm_of_allowed (hlist : list ≠ 0) (hbase : ¬ (wb = true ∧ list.getLsbD rn.toNat = true)) :
    exec (.ldm c pre up wb rn list) s = blockLoad (reg s) pre up rn list s (finishLdm up wb rn list s) := by
  rw [exec_ldm_of_passed hc hrn hlist, show (wb && list.getLsbD rn.toNat) = false by simpa using hbase, refuseIf_false]

theorem exec_ldmPc_of_allowed (hspsr : (!is26 s.cpsr.mode && sBitForbidden s) = false)
    (hbase : ¬ (wb = true ∧ short.getLsbD rn.toNat = true)) :
    exec (.ldmPc c pre up wb rn short) s
      = blockLoad (reg s) pre up rn (1#1 ++ short) s (finishLdmPc up wb rn s) := by
  rw [exec_ldmPc_of_passed hc hrn, hspsr, show (wb && short.getLsbD rn.toNat) = false by simpa using hbase,
    refuseIf_false, refuseIf_false]

theorem exec_ldmUser_of_allowed (hshort : short ≠ 0) (hspsr : ¬ noSpsr s.cpsr.mode) :
    exec (.ldmUser c pre up false rn short) s
      = blockLoad (physReg .usr) pre up rn (0#1 ++ short) s (finishLdmUser s) := by
  rw [exec_ldmUser_of_passed hc hrn hshort, sBitForbidden_eq_false.mpr hspsr, refuseIf_false, refuseIf_false]

theorem exec_stm_of_allowed (hlist : list ≠ 0) (h26 : is26 s.cpsr.mode = true → list.getLsbD 15 = false) :
    exec (.stm c pre up wb rn list) s
      = blockStore pre up wb rn list (fun base => stmValue s wb rn base (registerList list).head?) s := by
  rw [exec_stm_of_passed hc hrn hlist, readsPc26_eq_false h26, refuseIf_false]

theorem exec_stmUser_of_allowed (hlist : list ≠ 0) (hspsr : ¬ noSpsr s.cpsr.mode)
    (h26 : is26 s.cpsr.mode = true → list.getLsbD 15 = false) :
    exec (.stmUser c pre up false rn list) s = blockStore pre up false rn list (fun _ => readUserReg s) s := by
  rw [exec_stmUser_of_passed hc hrn hlist, sBitForbidden_eq_false.mpr hspsr, readsPc26_eq_false h26, refuseIf_false,
    refuseIf_false, refuseIf_false]

end

/-! ### The CPSR and the PC after a block load -/

section
variable {s u : State}

theorem setPsr26_cpsr_congr (h : u.cpsr = s.cpsr) (v : Word) : (setPsr26 u v).cpsr = (setPsr26 s v).cpsr := by
  by_cases hu : s.cpsr.mode = .usr26
  · rw [setPsr26_of_usr26 hu, setPsr26_of_usr26 (h ▸ hu), setFlagBits, setFlagBits, h]
  · rw [setPsr26_cpsr_of_ne_usr26 hu, setPsr26_cpsr_of_ne_usr26 (h ▸ hu), setFlagBits, setFlagBits, h]

section
variable {p : Psr} {q : Cpsr} (hp : currentSpsr s = some p) (hq : CpsrOf p q) (h32 : is26 s.cpsr.mode = false)
  (target : Word) (r : Refusal)
include hp hq h32

theorem returnFromException_inside (hin : is26 q.mode = true → s.pc.toNat ≤ 0x03FFFFFF) :
    returnFromException s target r = .next (branchTo { s with cpsr := q } target) := by
  have henter : enters26Outside s q.mode = false := Bool.eq_false_iff.mpr fun e =>
    have ⟨hq26, hout⟩ := (enters26Outside_eq_true h32).mp e
    Nat.not_le.mpr hout (hin hq26)
  rw [returnFromException_valid _ _ hp hq, henter, refuseIf_false]

theorem returnFromException_outside (hq26 : is26 q.mode = true) (hout : 0x03FFFFFF < s.pc.toNat) :
    returnFromException s target r = .refused .enter26Outside := by
  rw [returnFromException_valid _ _ hp hq, (enters26Outside_eq_true h32).mpr ⟨hq26, hout⟩, refuseIf_true]

end

/-- A load of registers leaves the SPSR of the mode. -/
theorem currentSpsr_congr (hcpsr : u.cpsr = s.cpsr) (hspsr : u.spsr = s.spsr) : currentSpsr u = currentSpsr s := by
  rw [currentSpsr, currentSpsr, hcpsr, getSpsr_congr hspsr]

end

/-! ### The words STM stores -/

theorem stmValue_of_stmWord {s : State} {wb : Bool} {rn : RegNo} {list : BitVec 16} {i : RegNo} {v : Word}
    (h : stmWord s wb rn list i = some v) :
    stmValue s wb rn (readReg s .n rn) (registerList list).head? i = v := by
  unfold stmWord at h
  unfold stmValue
  split at h
  · next hi =>
    rw [if_pos hi]
    split at h
    · cases h
    · next hknown =>
      rw [if_neg (by simpa using hknown)]
      exact Option.some.inj h
  · next hi =>
    rw [if_neg hi]
    exact Option.some.inj h

/-! ### The obligations -/

/-- Settles O31: the registers are loaded before the PC moves, and `BlockLoaded.withControl` carries them over. -/
theorem loadMultiple : Obligations.LoadMultiple := by
  intro c pre up wb rn list s hc hrn hlist hbase hclear hfits
  let start := firstOf s pre up rn list
  let u := blockLoadedState s up wb rn list start
  have hdone : BlockLoaded s u up wb rn list start := blockLoaded_blockLoadedState up start hrn hbase
  have hcpsr : u.cpsr = s.cpsr := blockLoadedState_cpsr ..
  have hpc : u.pc = s.pc := blockLoadedState_pc ..
  rw [exec_ldm_of_allowed hc hrn hlist hbase, blockLoad_of_not_aborts hclear]
  cases h15 : list.getLsbD 15 with
  | false =>
    obtain ⟨hloaded, hback, hkept, hframe⟩ := hdone.withControl u.cpsr (u.pc + 4) .sequential
    rw [finishLdm_of_not_pc h15, advance_of_fits (by rw [hcpsr, hpc]; exact hfits h15)]
    exact ⟨_, rfl, hloaded, hback, hkept, hcpsr, congrArg (· + 4) hpc, hframe⟩
  | true =>
    let v := lastWord s list start
    obtain ⟨hloaded, hback, hkept, hframe⟩ := hdone.withControl u.cpsr (pcOf u.cpsr.mode v) .nonSequential
    have hjump : pcOf u.cpsr.mode v = pcAfter s.cpsr.mode v := by rw [pcOf_eq_pcAfter, hcpsr]
    exact ⟨_, finishLdm_of_pc h15, hloaded, hback, hkept, hcpsr, hjump, hframe⟩

/-- Settles O32: the return from the exception is one from the state with the registers loaded, which has the SPSR, the mode
and the PC of the state before. -/
theorem loadMultipleReturn : Obligations.LoadMultipleReturn := by
  intro c pre up wb rn list s hc hrn l i loads
  refine ⟨fun hm => ?_, ?_⟩
  · have hexec : exec i s = _ := exec_ldmPc_of_passed hc hrn
    rw [hexec, returnForbidden_eq_true.mpr hm, refuseIf_true]
  intro hbase hclear v
  let start := firstOf s pre up rn l
  let u := blockLoadedState s up wb rn l start
  have h15 : l.getLsbD 15 = true := append_getLsbD_fifteen true list
  have hdone : BlockLoaded s u up wb rn l start :=
    blockLoaded_blockLoadedState up start hrn (by rwa [append_getLsbD_regNo 1#1 list hrn])
  have hcpsr : u.cpsr = s.cpsr := blockLoadedState_cpsr ..
  have hpc : u.pc = s.pc := blockLoadedState_pc ..
  have hexec (h : (!is26 s.cpsr.mode && sBitForbidden s) = false) :
      exec i s = finishLdmPc up wb rn s (readReg s .n rn) (blockWords s start (registerList l)) :=
    (exec_ldmPc_of_allowed hc hrn h hbase).trans (blockLoad_of_not_aborts hclear)
  refine ⟨fun h26 => ?_, fun h32 p hp => ?_⟩
  · have hmode : is26 (setPsr26 u v).cpsr.mode = is26 s.cpsr.mode :=
      (is26_setPsr26 (hcpsr ▸ h26) v).trans h26.symm
    rw [hexec (by rw [h26]; rfl), finishLdmPc_of_is26 h15 h26, setPsr26_eq]
    exact ⟨_, rfl, hdone.withControl _ _ _, psr26Written_of_cpsr (setPsr26_cpsr_congr hcpsr v),
      (pcOf_eq_pcAfter ..).trans (pcAfter_of_is26_eq hmode v)⟩
  · have hpu : currentSpsr u = some p := (currentSpsr_congr hcpsr hdone.spsr_eq).trans hp
    have hu32 : is26 u.cpsr.mode = false := hcpsr ▸ h32
    rw [hexec (returnForbidden_of_currentSpsr hp), finishLdmPc_of_not_is26 h15 h32]
    refine ⟨fun q hq => ⟨fun hin => ?_, fun hq26 hout => ?_⟩, returnFromException_invalid _ _ hpu⟩
    · rw [returnFromException_inside hpu hq hu32 v _ (hpc ▸ hin)]
      exact ⟨_, rfl, hdone.withControl _ _ _, rfl, pcOf_eq_pcAfter ..⟩
    · exact returnFromException_outside hpu hq hu32 v _ hq26 (hpc ▸ hout)

/-- Settles O33: the loads through the User view change general registers alone. -/
theorem loadMultipleUser : Obligations.LoadMultipleUser := by
  intro c pre up rn list s hc hrn hlist hspsr hf l hclear
  let words := blockWords s (firstOf s pre up rn l) (registerList l)
  have hloaded : Loaded (physReg .usr) s (writeLoaded (setView (physReg .usr)) s words) l (firstOf s pre up rn l) :=
    loaded_writeLoaded (viewInjective_physReg .usr)
  have hkept : UnlistedKept (physReg .usr) s (writeLoaded (setView (physReg .usr)) s words) l [] :=
    fun _ hr _ => getPhys_writeLoaded_of_unlisted hr
  have hexec : exec (.ldmUser c pre up false rn list) s
      = advance { writeLoaded (setView (physReg .usr)) s words with hazardStep := some (s.tick + 1) } := by
    rw [exec_ldmUser_of_allowed hc hrn hlist hspsr, blockLoad_of_not_aborts hclear, finishLdmUser,
      writeUserReg_eq_setView]
  rw [hexec]
  rw [writeLoaded_setView_eq] at hloaded hkept ⊢
  generalize (writeLoaded (setView (physReg .usr)) s words).regs = f at hloaded hkept ⊢
  have hphys (r : PhysReg) := getPhys_congr (s := { s with regs := f })
    (t := { s with regs := f, pc := s.pc + 4, nextFetch := .sequential, hazardStep := some (s.tick + 1) }) rfl r
  obtain ⟨-, -, hmem, hinputs, hcoproc, -⟩ := jumpFrame_refl s
  exact ⟨_, advance_of_fits hf, fun k i r hk hr => (hphys r).trans (hloaded k i r hk hr),
    fun r hr hb => (hphys r).trans (hkept r hr hb), rfl, ⟨rfl, rfl⟩, rfl, rfl, hmem, hinputs, hcoproc, rfl, rfl, rfl⟩

/-- Settles O36: each clause is the first check that fails, in the order of `exec_ldm_of_passed` and its like. -/
theorem blockRefused : Obligations.BlockRefused := by
  intro c pre up wb rn list short s hc
  refine ⟨?_, ?_, ?_, ?_, ?_, ?_, ?_, ?_⟩
  · rintro rfl i hi
    simp only [List.mem_cons, List.not_mem_nil, or_false] at hi
    rcases hi with rfl | rfl | rfl | rfl | rfl <;> exact whenPassed_pass hc
  · intro hrn i hi
    simp only [List.mem_cons, List.not_mem_nil, or_false] at hi
    rcases hi with rfl | rfl | rfl | rfl <;> exact (whenPassed_pass hc).trans (checkBlock_empty hrn _)
  · intro hrn hwb hbit
    have hlist : list ≠ 0 := by rintro rfl; simp at hbit
    rw [exec_ldm_of_passed hc hrn hlist, hwb, hbit]
    rfl
  · intro hrn hwb hbit husr hsys
    rw [exec_ldmPc_of_passed hc hrn, returnForbidden_eq_false.mpr ⟨husr, hsys⟩, hwb, hbit]
    rfl
  · intro hrn hlist hm
    rw [exec_stmUser_of_passed hc hrn hlist, sBitForbidden_eq_true.mpr hm, refuseIf_true]
  · intro hrn hshort hm
    rw [exec_ldmUser_of_passed hc hrn hshort, sBitForbidden_eq_true.mpr hm, refuseIf_true]
  · intro hrn hlist hm hwb
    rw [exec_stmUser_of_passed hc hrn hlist, sBitForbidden_eq_false.mpr hm, hwb]
    rfl
  · intro hrn hshort hm hwb
    rw [exec_ldmUser_of_passed hc hrn hshort, sBitForbidden_eq_false.mpr hm, hwb]
    rfl

/-- Settles O34: `stmValue` is the word the rule states wherever it states one. -/
theorem storeMultiple : Obligations.StoreMultiple := by
  intro c pre up wb rn list s hc hrn hlist hf h26 hclear
  rw [exec_stm_of_allowed hc hrn hlist h26]
  exact blockStore_of_not_aborts (fun _ _ => stmValue_of_stmWord) hf hrn hclear

/-- Settles O35: the store of O34 with the User view's values and no write-back. -/
theorem storeMultipleUser : Obligations.StoreMultipleUser := by
  intro c pre up rn list s hc hrn hlist hspsr hf h26 hclear
  rw [exec_stmUser_of_allowed hc hrn hlist hspsr h26]
  obtain ⟨t, ht, hstored, -, honly, hnext⟩ :=
    blockStore_of_not_aborts (wb := false) (f := fun _ => readUserReg s) (value := fun i => some (readUserReg s i))
      (fun _ _ => Option.some.inj) hf hrn hclear
  exact ⟨t, ht, hstored, honly, hnext⟩

/-- Settles O37: the three instructions read the same way, and the abort comes before what follows their reads. -/
theorem loadMultipleAborted : Obligations.LoadMultipleAborted := by
  intro c pre up wb rn list short s hc hrn aborts
  refine ⟨fun hlist hbase j hj ha hpre => ?_, fun husr hsys hbase j hj ha hpre => ?_,
    fun hshort hspsr j hj ha hpre => ?_⟩
  · rw [exec_ldm_of_allowed hc hrn hlist hbase]
    exact blockLoad_of_aborts (viewInjective_physReg _) hj ha hpre
  · rw [exec_ldmPc_of_allowed hc hrn (returnForbidden_eq_false.mpr ⟨husr, hsys⟩) hbase]
    exact blockLoad_of_aborts (viewInjective_physReg _) hj ha hpre
  · rw [exec_ldmUser_of_allowed hc hrn hshort hspsr]
    exact blockLoad_of_aborts (viewInjective_physReg _) hj ha hpre

/-- Settles O38: both forms write the same way, with the values of O34 and of O35. -/
theorem storeMultipleAborted : Obligations.StoreMultipleAborted := by
  intro c pre up wb rn list s hc hrn hlist h26 j hj ha hpre
  refine ⟨?_, fun _ hspsr => ?_⟩
  · rw [exec_stm_of_allowed hc hrn hlist h26]
    exact blockStore_of_aborts (fun _ _ => stmValue_of_stmWord) hj ha hpre
  · rw [exec_stmUser_of_allowed hc hrn hlist hspsr h26]
    exact blockStore_of_aborts (fun _ _ => Option.some.inj) hj ha hpre

end Sys2Proof.Machine
end

section
/-! SUPPORT. Exceptions, the sampling of the pins and reset (spec/60_exceptions.md R506, R516, R520 to R531,
spec/70_reset_and_hazards.md R601 to R604): each end of a step as an entry of an exception or as a step of reset. -/

namespace Sys2Proof.Machine

open Sys2Proof.Claims

/-! ### What is not the instruction's own -/

/-- Abandoning a held instruction uses up a reply of the coprocessors and nothing else (R461). -/
theorem abandonWait_eq (t : State) : abandonWait t = { t with coproc := (abandonWait t).coproc } := by
  unfold abandonWait
  split <;> rfl

theorem abandonWait_of_held {t : State} (h : t.nextFetch = .held) :
    abandonWait t = { t with coproc := t.coproc.tail } := if_pos h

/-- An entry neither looks at the replies of the coprocessors nor says anything of them. -/
theorem entered_withCoproc {bank : Bank} {mode : Mode} {vector ret : Word} {setsF : Bool} {s t : State}
    {l : List CoprocReply} (h : Entered bank mode vector ret setsF { s with coproc := l } t) :
    Entered bank mode vector ret setsF s t := by
  obtain ⟨hret, hregs, hspsr, hothers, hrest⟩ := h
  exact ⟨hret, fun r hr => (hregs r hr).trans (getPhys_congr rfl r), hspsr,
    fun b hb => (hothers b hb).trans (getSpsr_congr rfl b), hrest⟩

/-- What the counting of the step changes is what is left out when a step is compared with its instruction. -/
theorem countStep_restored {u w : State} (hl : w.lines = u.lines) (ht : w.tick = u.tick) :
    { countStep w with lines := u.lines, tick := u.tick } = w := by
  rw [← hl, ← ht]
  rfl

/-! ### The pins -/

section
variable {l : Lines} {t : State}

theorem sampleInterrupts_of_fiq (h : l.fiq = true ∧ t.cpsr.f = false) :
    sampleInterrupts l t = takeException .fiq (t.pc + 4) (abandonWait t) := by
  obtain ⟨hl, hf⟩ := h
  rw [sampleInterrupts, hl, hf]
  rfl

/-- IRQ is taken only where FIQ is not (R520, R530). -/
theorem sampleInterrupts_of_irq (hfiq : ¬ (l.fiq = true ∧ t.cpsr.f = false))
    (h : l.irq = true ∧ t.cpsr.i = false) :
    sampleInterrupts l t = takeException .irq (t.pc + 4) (abandonWait t) := by
  obtain ⟨hl, hi⟩ := h
  rw [sampleInterrupts, if_neg (by simpa using hfiq), hl, hi]
  rfl

theorem sampleInterrupts_of_none (hfiq : ¬ (l.fiq = true ∧ t.cpsr.f = false))
    (hirq : ¬ (l.irq = true ∧ t.cpsr.i = false)) : sampleInterrupts l t = t := by
  rw [sampleInterrupts, if_neg (by simpa using hfiq), if_neg (by simpa using hirq)]

@[simp] theorem abandonWait_lines (t : State) : (abandonWait t).lines = t.lines := by rw [abandonWait_eq]

@[simp] theorem abandonWait_tick (t : State) : (abandonWait t).tick = t.tick := by rw [abandonWait_eq]

@[simp] theorem sampleInterrupts_lines (l : Lines) (t : State) : (sampleInterrupts l t).lines = t.lines := by
  unfold sampleInterrupts
  split
  · simp
  · split <;> simp

@[simp] theorem sampleInterrupts_tick (l : Lines) (t : State) : (sampleInterrupts l t).tick = t.tick := by
  unfold sampleInterrupts
  split
  · simp
  · split <;> simp

/-- An interrupt is entered as it would be from the state whose held instruction is not abandoned yet (R461, R521). -/
theorem entered_takeException_abandonWait (e : Exc) (t : State) :
    Entered (modeBank (excMode e)) (excMode e) (excVector e) (retAfter t 4) (e == .fiq) t
      (takeException e (t.pc + 4) (abandonWait t)) := by
  rw [abandonWait_eq]
  exact entered_withCoproc (entered_takeException e (t.pc + 4) { t with coproc := (abandonWait t).coproc })

theorem entered_sampleInterrupts_of_fiq (h : l.fiq = true ∧ t.cpsr.f = false) :
    Entered .fiq .fiq 0x1C (retAfter t 4) true t (sampleInterrupts l t) := by
  rw [sampleInterrupts_of_fiq h]
  exact entered_takeException_abandonWait .fiq t

theorem entered_sampleInterrupts_of_irq (hfiq : ¬ (l.fiq = true ∧ t.cpsr.f = false))
    (h : l.irq = true ∧ t.cpsr.i = false) :
    Entered .irq .irq 0x18 (retAfter t 4) false t (sampleInterrupts l t) := by
  rw [sampleInterrupts_of_irq hfiq h]
  exact entered_takeException_abandonWait .irq t

end

/-! ### The end of a step -/

section
variable {s u : State}

theorem endStep_of_running (h : (currentLines s).reset = false) (u : State) :
    endStep s u = countStep (sampleInterrupts (currentLines s) u) := by
  simp [endStep, h]

theorem endStep_of_reset (h : (currentLines s).reset = true) (u : State) :
    endStep s u = countStep (enterReset s u) := by
  simp [endStep, h]

/-- Outside reset a step is its instruction and the end of the step (R225). -/
theorem step_of_runInstruction (h0 : s.inReset = false) (h : runInstruction s = .next u) :
    step s = .next (endStep s u) := by
  rw [step_of_not_inReset h0, h]
  rfl

theorem step_of_inReset (h : s.inReset = true) : step s = .next (resetStep s) := cycle_eq_next.mpr (.inl ⟨h, rfl⟩)

theorem runInstruction_of_fetchAborts (h : fetchAborts s = true) : runInstruction s = .next (takePrefetchAbort s) :=
  runInstruction_eq_next.mpr (.inl ⟨h, rfl⟩)

/-- With no pin asserted the end of a step only counts it. -/
theorem endStep_of_quiet (h : currentLines s = ⟨false, false, false⟩) (u : State) : endStep s u = countStep u := by
  rw [endStep_of_running (by rw [h]), h, sampleInterrupts_of_none (by simp) (by simp)]

end

/-! ### Reset -/

/-- Each byte that an abandoned instruction would have changed is changed or not (R604). -/
theorem read_abandonedMemory (tick : Nat) (old new : Memory) (a : Nat) :
    (abandonedMemory tick old new).read a = old.read a ∨ (abandonedMemory tick old new).read a = new.read a := by
  unfold abandonedMemory
  generalize old ++ new = cells
  induction cells using List.reverseRecOn with
  | nil => exact .inl rfl
  | append_singleton l c ih =>
    rw [List.foldl_append, List.foldl_cons, List.foldl_nil]
    split
    · by_cases ha : a = c.1
      · rw [ha]
        exact .inr (Memory.read_write_same _ _ _)
      · rw [Memory.read_write_other _ _ ha]
        exact ih
    · exact ih

theorem byteAt_enterReset (s u : State) (a : Word) :
    byteAt (enterReset s u) a = byteAt s a ∨ byteAt (enterReset s u) a = byteAt u a :=
  read_abandonedMemory s.tick s.mem u.mem a.toNat

/-! ### The obligations -/

/-- Settles O46: every exception but Reset is one entry, with its own mode and vector. -/
theorem exceptionEntry : Obligations.ExceptionEntry := fun s ret =>
  ⟨entered_takeException .undefined ret s, entered_takeException .swi ret s, entered_takeException .prefetchAbort ret s,
    entered_takeException .dataAbort ret s, entered_takeException .irq ret s, entered_takeException .fiq ret s,
    rfl, rfl, rfl, rfl⟩

/-- Settles O47: the entry is the whole instruction, and with no pin asserted the whole step. -/
theorem prefetchAbort : Obligations.PrefetchAbort := by
  intro s h0 ha hl
  obtain ⟨-, -, ⟨hret, hregs, hspsr, hothers, hcpsr, hpc, hmem, -⟩, -⟩ := exceptionEntry s (s.pc + 4)
  refine ⟨countStep (takePrefetchAbort s), ?_, (getPhys_congr rfl _).trans hret,
    fun r hr => (getPhys_congr rfl r).trans (hregs r hr), hspsr, fun b hb => (getSpsr_congr rfl b).trans (hothers b hb),
    ?_, hpc, hmem, takeException_stale ..⟩
  · rw [step_of_runInstruction h0 (runInstruction_of_fetchAborts ha), endStep_of_quiet hl]
  · exact hcpsr.trans (by rw [Bool.or_false])

/-- Settles O48: the pins are sampled with the CPSR of `u`, and the rest of the step is counting. -/
theorem interruptSampling : Obligations.InterruptSampling := by
  intro s u l ls h0 hlines hreset hu
  have hcurrent : currentLines s = l := by rw [currentLines, hlines]
  refine ⟨countStep (sampleInterrupts l u), ?_, congrArg List.tail (sampleInterrupts_lines l u),
    congrArg (· + 1) (sampleInterrupts_tick l u), ?_⟩
  · rw [step_of_runInstruction h0 hu, endStep_of_running (by rwa [hcurrent]), hcurrent]
  · dsimp only
    rw [countStep_restored (sampleInterrupts_lines l u) (sampleInterrupts_tick l u)]
    exact ⟨entered_sampleInterrupts_of_fiq, entered_sampleInterrupts_of_irq, sampleInterrupts_of_none⟩

/-- Settles O49: the entry of the abort leaves F as it was, so that O48 gives the entry of FIQ after it. -/
theorem fiqAfterDataAbort : Obligations.FiqAfterDataAbort := by
  intro s u l ls h0 hlines hreset hl hf hu hab
  obtain ⟨⟨hretA, hregsA, hspsrA, hothersA, hcpsrA, hpcA, hmemA, -⟩, -⟩ := hab
  have hfu : u.cpsr.f = false := by rw [hcpsrA, hf]; rfl
  have hmode : is26 u.cpsr.mode = false := by rw [hcpsrA]; rfl
  have hret : retAfter u 4 = 0x14 := by rw [retAfter, hmode, hpcA]; rfl
  obtain ⟨t, ht, -, -, hfiq, -⟩ := interruptSampling s u l ls h0 hlines hreset hu
  obtain ⟨hretF, hregsF, hspsrF, hothersF, hcpsrF, hpcF, hmemF, -⟩ := hfiq ⟨hl, hfu⟩
  have hregsT (r : PhysReg) (hr : r ≠ .r14 .fiq) : getPhys t r = getPhys u r :=
    (getPhys_congr rfl r).trans (hregsF r (by simpa using hr))
  refine ⟨t, ht, hpcF, ?_, (getPhys_congr rfl _).trans (hretF.trans hret), (hregsT _ (by decide)).trans hretA,
    (hothersF .abt (by decide)).trans hspsrA, ?_, fun r hr => ?_, fun a => (hmemF a).trans (hmemA a)⟩
  · exact hcpsrF.trans (by rw [hcpsrA, Bool.or_true])
  · exact hspsrF.trans (by rw [hcpsrA, Bool.or_false])
  · simp only [List.mem_cons, Option.some.injEq, List.not_mem_nil, or_false, not_or] at hr
    obtain ⟨hrF, hrA⟩ := hr
    exact (hregsT r hrF).trans (hregsA r (by simpa using hrA))

/-- Settles O50: a step of reset is `resetStep`, and the step that enters reset keeps or makes each write. -/
theorem resetSequence : Obligations.ResetSequence := by
  refine ⟨fun s h0 hl => ?_, fun s h0 hl => ?_, fun s u h0 hl hu => ?_⟩
  · rw [step_of_inReset h0, resetStep, if_pos hl]
    rfl
  · rw [step_of_inReset h0, resetStep, if_neg (by simp [hl])]
    exact ⟨_, rfl, rfl, rfl, rfl, rfl, rfl, rfl, rfl, rfl, rfl, fun _ => rfl⟩
  · rw [step_of_runInstruction h0 hu, endStep_of_reset hl]
    exact ⟨_, rfl, rfl, rfl, rfl, fun a => byteAt_enterReset s u a⟩

end Sys2Proof.Machine
end

section
/-! SUPPORT. Swaps and software interrupts (spec/48_swap_swi_imb.md R422 to R431): a swap as a read and a write of which
either may abort. -/

namespace Sys2Proof.Machine

open Sys2Proof.Claims

/-! ### The end of a swap -/

theorem setWord_eq (s : State) (a v : Word) : setWord s a v = { s with mem := (setWord s a v).mem } := by
  unfold setWord
  dsimp only
  split <;> rfl

/-- Rd is written after memory as a base is after a store (R422, R423). -/
theorem advance_writeReg_markStale {s : State} (hf : Fits s) {rd : RegNo} (hrd : rd ≠ 15) (m : Memory) (a v : Word) :
    ∃ t, advance (writeReg (markStale { s with mem := m } a) rd v) = .next t ∧ t.mem = m ∧ t.bigend = s.bigend
      ∧ Holds s t rd v ∧ StaleWith s t a ∧ OnlyMemory s t [reg s rd] ∧ Advanced s t := by
  obtain ⟨t, ht, hmem, hframe⟩ := advance_writeBack_markStale (pre := true) (wb := true) hf (fun _ => hrd) m a v
  have hbig := bigend_of_storeFrame hframe
  obtain ⟨hv, hregs, hcpsr, hspsr, hstale, hrest, hnext⟩ := hframe
  exact ⟨t, ht, hmem, hbig, hv rfl, hstale, ⟨hregs, hcpsr, hspsr, hrest⟩, hnext⟩

/-- Bits 1:0 of an address are its remainder modulo four (R343). -/
theorem rotatedRight_rotateLoaded (w a : Word) : RotatedRight (rotateLoaded w a) w (8 * (a.toNat % 4)) := by
  rw [rotateLoaded, BitVec.extractLsb'_toNat, Nat.shiftRight_zero]
  exact rotatedRight_rotateRight w _

/-! ### The two accesses -/

/-- The read and the write of a swap and its end: `value` is what Rd gets of what was read (R422, R423, log 38). -/
def swapWith {α : Type} (read : Option α) (write : Option State) (rd : RegNo) (value : α → Word) (s : State) : Result :=
  match read with
  | none => .next (takeDataAbort s)
  | some w =>
    match write with
    | none => .next (takeDataAbort s)
    | some t => advance (writeReg t rd (value w))

section
variable {c : Cond} {rn rd rm : RegNo} {s : State}

theorem exec_swp_of_passed (hc : conditionPassed c s.cpsr = true) (rn rd rm : RegNo) : exec (.swp c rn rd rm) s
    = checkSwap rn rd rm (swapWith (loadWord s .loadX (privileged s) (readReg s .n rn))
        (storeWord s .storeX (privileged s) (readReg s .n rn) (readReg s .m rm)) rd
        (rotateLoaded · (readReg s .n rn)) s) := by
  refine (whenPassed_pass hc).trans (congrArg (checkSwap rn rd rm) ?_)
  dsimp only
  cases loadWord s .loadX (privileged s) (readReg s .n rn) with
  | none => rfl
  | some w =>
    cases storeWord s .storeX (privileged s) (readReg s .n rn) (readReg s .m rm) with
    | none => rfl
    | some t => rfl

theorem exec_swpb_of_passed (hc : conditionPassed c s.cpsr = true) (rn rd rm : RegNo) : exec (.swpb c rn rd rm) s
    = checkSwap rn rd rm (swapWith (loadByte s .loadBX (privileged s) (readReg s .n rn))
        (storeByte s .storeBX (privileged s) (readReg s .n rn) (field (readReg s .m rm) 0 8)) rd
        (·.setWidth 32) s) := by
  refine (whenPassed_pass hc).trans (congrArg (checkSwap rn rd rm) ?_)
  dsimp only
  cases loadByte s .loadBX (privileged s) (readReg s .n rn) with
  | none => rfl
  | some b =>
    cases storeByte s .storeBX (privileged s) (readReg s .n rn) (field (readReg s .m rm) 0 8) with
    | none => rfl
    | some t => rfl

theorem checkSwap_refused (h : rn = 15 ∨ rd = 15 ∨ rm = 15) (k : Result) :
    checkSwap rn rd rm k = .refused .swapUsesR15 := by
  have hcheck : (rn == 15 || rd == 15 || rm == 15) = true := by simpa [or_assoc] using h
  rw [checkSwap, hcheck, refuseIf_true]

theorem checkSwap_pass (hrn : rn ≠ 15) (hrd : rd ≠ 15) (hrm : rm ≠ 15) (k : Result) : checkSwap rn rd rm k = k := by
  rw [checkSwap, beq_false_of_ne hrn, beq_false_of_ne hrd, beq_false_of_ne hrm]
  rfl

variable {α : Type} {read : Option α} {write : Option State}

/-- Neither access has had an effect when one of them aborts (R425). -/
theorem swapWith_of_none (h : read = none ∨ write = none) (rd : RegNo) (value : α → Word) (s : State) :
    swapWith read write rd value s = .next (takeDataAbort s) := by
  rcases h with rfl | rfl
  · rfl
  · cases read <;> rfl

theorem swapWith_of_some {r : α} {u : State} (hr : read = some r) (hw : write = some u) (rd : RegNo)
    (value : α → Word) (s : State) : swapWith read write rd value s = advance (writeReg u rd (value r)) := by
  rw [hr, hw]
  rfl

end

/-! ### The obligations -/

/-- Settles O39: both swaps are `swapWith`, and their stores change memory alone. -/
theorem swap : Obligations.Swap := by
  intro c rn rd rm s hc a priv
  rw [exec_swp_of_passed hc, exec_swpb_of_passed hc]
  refine ⟨fun h => ⟨checkSwap_refused h _, checkSwap_refused h _⟩, fun hrn hrd hrm => ?_⟩
  rw [checkSwap_pass hrn hrd hrm, checkSwap_pass hrn hrd hrm]
  refine ⟨fun h => ⟨_, swapWith_of_none (h.imp (if_pos ·) (if_pos ·)) .., dataAborted_takeDataAbort s⟩,
    fun h => ⟨_, swapWith_of_none (h.imp (if_pos ·) (if_pos ·)) .., dataAborted_takeDataAbort s⟩,
    fun hr hw hf => ?_, fun hr hw hf => ?_⟩
  · let v := readReg s .m rm
    obtain ⟨t, ht, hmem, hbig, hv, hstale, hframe⟩ :=
      advance_writeReg_markStale hf hrd (setWord s a v).mem a (rotateLoaded (wordAt s a) a)
    rw [← setWord_eq] at ht
    have hread := loadWord_eq_some.mpr ⟨hr, rfl⟩
    have hwrite : storeWord s .storeX priv a v = some _ := storeWord_eq_some.mpr ⟨hw, rfl⟩
    refine ⟨t, _, (swapWith_of_some hread hwrite ..).trans ht, hv, rotatedRight_rotateLoaded _ a, ?_, ?_, hstale,
      hframe⟩
    · exact (wordAt_congr hmem (by rw [hbig, setWord_bigend]) a).trans (wordAt_setWord s a v)
    · exact fun x hx => (byteAt_congr hmem x).trans (memKeptOutside_setWord s a v x hx)
  · let b : Byte := field (readReg s .m rm) 0 8
    obtain ⟨t, ht, hmem, -, hv, hstale, hframe⟩ :=
      advance_writeReg_markStale hf hrd (setByte s a b).mem a ((byteAt s a).setWidth 32)
    have hread := loadByte_eq_some.mpr ⟨hr, rfl⟩
    have hwrite : storeByte s .storeBX priv a b = some _ := storeByte_eq_some.mpr ⟨hw, rfl⟩
    refine ⟨t, _, (swapWith_of_some hread hwrite ..).trans ht, hv, BitVec.toNat_setWidth_of_le (by decide), ?_, ?_,
      hstale, hframe⟩
    · exact (byteAt_congr hmem a).trans (byteAt_setByte_same s a b)
    · exact fun x hx => (byteAt_congr hmem x).trans (memKeptOutside_setByte s a b x hx)

/-- Settles O40: the barrier empties the stale set after the entry. (In this namespace the bare name is the model's
function.) -/
theorem SwapSwi.softwareInterrupt : Obligations.SoftwareInterrupt := by
  intro c comment s hc i hi
  have hswi : isExecutedSwi i s = true := by
    simp only [List.mem_cons, List.not_mem_nil, or_false] at hi
    rcases hi with rfl | rfl | rfl <;> exact hc
  exact ⟨_, takeException .swi (s.pc + 4) s, exec_of_isExecutedSwi hswi, entered_takeException .swi (s.pc + 4) s,
    ⟨takeException_coproc .., takeException_coprocLog .., takeException_controlLog ..⟩, rfl⟩

end Sys2Proof.Machine
end

section
/-! SUPPORT. The undefined classes and the coprocessor instructions (spec/49_coprocessor_undefined.md R450 to R471):
what becomes of an offer to the coprocessors, and the moves between a register and a coprocessor that accepts one. -/

namespace Sys2Proof.Machine

open Sys2Proof.Claims

/-! ### The trap -/

theorem trapped_takeUndefined (s : State) : Trapped s (takeUndefined s) :=
  ⟨entered_takeException .undefined (s.pc + 4) s, takeException_stale .., takeException_coprocLog ..,
    takeException_controlLog .., takeException_imbReturn ..⟩

/-- The trap does not depend on the replies still to come. -/
theorem trapped_takeUndefined_withCoproc (s : State) (l : List CoprocReply) :
    Trapped s (takeUndefined { s with coproc := l }) := by
  obtain ⟨hentered, hrest⟩ := trapped_takeUndefined { s with coproc := l }
  exact ⟨entered_withCoproc hentered, hrest⟩

theorem takeUndefined_coproc (s : State) : (takeUndefined s).coproc = s.coproc := takeException_coproc ..

/-! ### What an instruction calls -/

section
variable {c : Cond} {i : Instr} {s : State}

theorem exec_undefinedA_of_passed (hc : conditionPassed c s.cpsr = true) (bits : BitVec 28) :
    exec (.undefinedA c bits) s = .next (takeUndefined s) := whenPassed_pass hc

/-- The thirteen constructors of classes B to E have one meaning (R470). -/
theorem exec_undefinedBE_of_passed {bits : BitVec 28} (hi : i ∈ undefinedBE c bits)
    (hc : conditionPassed c s.cpsr = true) : exec i s = undefinedBtoE s := by
  simp only [undefinedBE, List.mem_cons, List.not_mem_nil, or_false] at hi
  rcases hi with rfl | rfl | rfl | rfl | rfl | rfl | rfl | rfl | rfl | rfl | rfl | rfl | rfl <;>
    exact whenPassed_pass hc

/-- What follows when MRC is accepted (R457, R458). -/
def mrcAccepted (i : Instr) (rd : RegNo) (d : Word) (t : State) : Result :=
  if rd = 15 then advance (setFlagBits (logCoproc i none t) d) else advance (writeReg (logCoproc i none t) rd d)

/-- What follows when MCR of the word `v` is accepted (R460). -/
def mcrAccepted (i : Instr) (v _d : Word) (t : State) : Result :=
  advance { logCoproc i (some v) t with controlLog := v :: t.controlLog }

theorem exec_mrc_of_passed (hc : conditionPassed c s.cpsr = true) (opc : BitVec 3) (crn rd : RegNo) (cp : BitVec 4)
    (info : BitVec 3) (crm : RegNo) : exec (.mrc c opc crn rd cp info crm) s
      = offerTransfer cp s (mrcAccepted (.mrc c opc crn rd cp info crm) rd) := whenPassed_pass hc

theorem exec_mcr_of_passed (hc : conditionPassed c s.cpsr = true) (opc : BitVec 3) (crn rd : RegNo) (cp : BitVec 4)
    (info : BitVec 3) (crm : RegNo) : exec (.mcr c opc crn rd cp info crm) s
      = refuseIf (rd == 15) .mcrFromR15
          (offerTransfer cp s (mcrAccepted (.mcr c opc crn rd cp info crm) (readReg s .d rd))) := whenPassed_pass hc

theorem exec_mcr_of_allowed (hc : conditionPassed c s.cpsr = true) {rd : RegNo} (hrd : rd ≠ 15) (opc : BitVec 3)
    (crn : RegNo) (cp : BitVec 4) (info : BitVec 3) (crm : RegNo) : exec (.mcr c opc crn rd cp info crm) s
      = offerTransfer cp s (mcrAccepted (.mcr c opc crn rd cp info crm) (readReg s .d rd)) := by
  rw [exec_mcr_of_passed hc, beq_false_of_ne hrd, refuseIf_false]

/-- Every coprocessor instruction is an offer; they differ in what follows its acceptance (R451). -/
theorem exec_of_offered (hi : Offered i) (hc : conditionPassed i.cond s.cpsr = true) :
    ∃ k, exec i s = offer s k := by
  cases hi with
  | cdp | ldc | stc | mrc => exact ⟨_, whenPassed_pass hc⟩
  | mcr c opc crn rd cp info crm hrd => exact ⟨_, exec_mcr_of_allowed hc hrd ..⟩

theorem exec_of_unsupported (hi : Unsupported i) (hc : conditionPassed i.cond s.cpsr = true) :
    exec i s = offerUnsupported s := by
  cases hi with
  | cdp | ldc | stc => exact whenPassed_pass hc

end

/-! ### The offer -/

section
variable {s : State} {k : Word → State → Result} {d : Word} {r : CoprocReply} {rest : List CoprocReply}

theorem offer_of_nil (h : s.coproc = []) : offer s k = .next (takeUndefined s) := by
  rw [offer, h]

theorem offer_of_bounce (h : s.coproc = ⟨some 0, .bounce⟩ :: rest) :
    offer s k = .next (takeUndefined { s with coproc := rest }) := by
  rw [offer, h]
  rfl

theorem offer_of_accept (h : s.coproc = ⟨some 0, .accept d⟩ :: rest) : offer s k = k d { s with coproc := rest } := by
  rw [offer, h]
  rfl

theorem offer_of_waits (h : s.coproc = r :: rest) (hw : r.waits ≠ some 0) : offer s k = .next (busyWait r rest s) := by
  rw [offer, h]
  exact if_neg hw

/-- Where nothing answers, and where a coprocessor bounces, the instruction traps (R452, R463, D15). -/
theorem offer_of_bounced (h : s.coproc = [] ∨ ∃ rest, s.coproc = ⟨some 0, .bounce⟩ :: rest)
    (k : Word → State → Result) :
    ∃ t, offer s k = .next t ∧ Trapped s t ∧ t.coproc = s.coproc.tail := by
  rcases h with h | ⟨rest, h⟩
  · exact ⟨_, offer_of_nil h, trapped_takeUndefined s, by rw [takeUndefined_coproc, h, List.tail_nil]⟩
  · exact ⟨_, offer_of_bounce h, trapped_takeUndefined_withCoproc s rest,
      by rw [takeUndefined_coproc, h, List.tail_cons]⟩

theorem offerTransfer_of_absent {cp : BitVec 4} (h : s.coproc = ⟨some 0, .accept d⟩ :: rest)
    (hcp : cp ∉ s.presentCps) :
    offerTransfer cp s k = .refused .absentCoprocessorAccepted := by
  rw [offerTransfer, offer_of_accept h]
  simp [hcp]

theorem offerTransfer_of_present {cp : BitVec 4} (h : s.coproc = ⟨some 0, .accept d⟩ :: rest)
    (hcp : cp ∈ s.presentCps) :
    offerTransfer cp s k = k d { s with coproc := rest } := by
  rw [offerTransfer, offer_of_accept h]
  simp [hcp]

end

/-! ### The transfers -/

/-- The state after an exchange with the coprocessors: the replies left and the two records. -/
def withExchange (replies : List CoprocReply) (events : List CoprocEvent) (control : List Word) (s : State) : State :=
  { s with coproc := replies, coprocLog := events, controlLog := control }

section
variable {replies : List CoprocReply} {events : List CoprocEvent} {control : List Word} {s t : State}

theorem getPhys_withExchange (r : PhysReg) : getPhys (withExchange replies events control s) r = getPhys s r :=
  getPhys_congr rfl r

theorem regsKeptBut_of_withExchange {l : List (Option PhysReg)}
    (h : RegsKeptBut (withExchange replies events control s) t l) : RegsKeptBut s t l :=
  fun r hr => (h r hr).trans (getPhys_withExchange r)

theorem mrcAccepted_withCoproc (i : Instr) (rd : RegNo) (d : Word) (rest : List CoprocReply) (s : State) :
    mrcAccepted i rd d { s with coproc := rest }
      = let u := withExchange rest (⟨coprocInstr i, privileged s, none⟩ :: s.coprocLog) s.controlLog s
        if rd = 15 then advance (setFlagBits u d) else advance (writeReg u rd d) := rfl

theorem mcrAccepted_withCoproc (i : Instr) (v d : Word) (rest : List CoprocReply) (s : State) :
    mcrAccepted i v d { s with coproc := rest }
      = advance (withExchange rest (⟨coprocInstr i, privileged s, some v⟩ :: s.coprocLog) (v :: s.controlLog) s) := rfl

/-- After an exchange the frame of an instruction is its frame before it, but for what was exchanged. -/
theorem frame_of_withExchange (h : PlainFrame (withExchange replies events control s) t) :
    t.spsr = s.spsr ∧ t.stale = s.stale ∧ MemKept s t ∧ InputsKept s t ∧ RecordsKept s t ∧ t.coproc = replies
      ∧ t.controlLog = control ∧ t.coprocLog = events ∧ Advanced s t := by
  obtain ⟨hnext, hspsr, hstale, hmem, hinputs, ⟨hreplies, hevents, hcontrol⟩, hrecords⟩ := h
  exact ⟨hspsr, hstale, hmem, hinputs, hrecords, hreplies, hcontrol, hevents, hnext⟩

end

/-! ### The obligations -/

/-- Settles O41. -/
theorem undefinedTrap : Obligations.UndefinedTrap := by
  intro c bits s hc
  refine ⟨⟨_, exec_undefinedA_of_passed hc bits, trapped_takeUndefined s, takeUndefined_coproc s⟩, fun i hi => ?_⟩
  rw [exec_undefinedBE_of_passed hi hc]
  refine ⟨fun h => ⟨_, undefinedBtoE_eq_next.mpr ⟨h, rfl⟩, trapped_takeUndefined s, takeUndefined_coproc s⟩,
    fun h => ?_⟩
  rw [undefinedBtoE, h]
  rfl

/-- Settles O42. -/
theorem coprocessorOffer : Obligations.CoprocessorOffer := by
  intro i s hi hc
  refine ⟨fun h => ?_, fun hu d rest h => ?_⟩
  · obtain ⟨k, hk⟩ := exec_of_offered hi hc
    rw [hk]
    exact offer_of_bounced h k
  · rw [exec_of_unsupported hu hc, offerUnsupported, offer_of_accept h]

/-- Settles O43: the cycle is `busyWait`, and the interrupt's entry is that of the state that waits. (In this namespace
the bare name is the model's function.) -/
theorem Coprocessors.busyWait : Obligations.BusyWait := by
  refine ⟨fun i s waits answer rest hi hc h hw => ?_, fun s l hheld => ?_⟩
  · obtain ⟨k, hk⟩ := exec_of_offered hi hc
    obtain ⟨hspsr, hstale, hmem, hinputs, -⟩ := jumpFrame_refl s
    refine ⟨_, hk.trans (offer_of_waits h hw), rfl, rfl, rfl, hspsr, hstale, fun _ _ => getPhys_congr rfl _, hmem,
      hinputs, rfl, rfl, rfl, rfl, ?_, ?_⟩
    · rintro rfl
      exact h.symm
    · rintro n rfl
      rfl
  · have hwait := abandonWait_of_held hheld
    refine ⟨fun h => ⟨entered_sampleInterrupts_of_fiq h, ?_⟩, fun hfiq h =>
      ⟨entered_sampleInterrupts_of_irq hfiq h, ?_⟩⟩
    · rw [sampleInterrupts_of_fiq h, hwait]
      exact ⟨takeException_coproc .., takeException_coprocLog .., takeException_controlLog ..⟩
    · rw [sampleInterrupts_of_irq hfiq h, hwait]
      exact ⟨takeException_coproc .., takeException_coprocLog .., takeException_controlLog ..⟩

/-- Settles O44: after the exchange Rd is written, or for R15 the flags. -/
theorem moveFromCoprocessor : Obligations.MoveFromCoprocessor := by
  intro c opc crn rd cp info crm s d rest hc h i
  have hexec : exec i s = offerTransfer cp s (mrcAccepted i rd) := exec_mrc_of_passed hc ..
  rw [hexec]
  refine ⟨offerTransfer_of_absent h, fun hcp hf => ?_⟩
  rw [offerTransfer_of_present h hcp, mrcAccepted_withCoproc]
  let u := withExchange rest (⟨coprocInstr i, privileged s, none⟩ :: s.coprocLog) s.controlLog s
  by_cases hrd : rd = 15
  · obtain ⟨t, ht, hcpsr, hregs, hframe⟩ := advance_withCpsr u (setFlagBits u d).cpsr hf
    exact ⟨t, (if_pos hrd).trans ht, fun hn => absurd hrd hn, fun _ => hcpsr,
      fun r _ => regsKeptBut_of_withExchange hregs r List.not_mem_nil, frame_of_withExchange hframe⟩
  · obtain ⟨t, ht, hv, hregs, hcpsr, hframe⟩ := advance_writeReg_withCpsr u u.cpsr rfl hf hrd d
    exact ⟨t, (if_neg hrd).trans ht, fun _ => ⟨hv, hcpsr⟩, fun h15 => absurd h15 hrd,
      regsKeptBut_of_withExchange hregs, frame_of_withExchange hframe⟩

/-- Settles O45: an accepted MCR is the exchange and nothing else. -/
theorem moveToCoprocessor : Obligations.MoveToCoprocessor := by
  intro c opc crn rd cp info crm s hc i
  refine ⟨?_, fun d rest hrd h => ?_⟩
  · rintro rfl
    exact exec_mcr_of_passed hc ..
  let v := readReg s .d rd
  have hexec : exec i s = offerTransfer cp s (mcrAccepted i v) := exec_mcr_of_allowed hc hrd ..
  rw [hexec]
  refine ⟨offerTransfer_of_absent h, fun hcp hf => ?_⟩
  rw [offerTransfer_of_present h hcp, mcrAccepted_withCoproc]
  let u := withExchange rest (⟨coprocInstr i, privileged s, some v⟩ :: s.coprocLog) (v :: s.controlLog) s
  obtain ⟨t, ht, hcpsr, hregs, hframe⟩ := advance_withCpsr u u.cpsr hf
  obtain ⟨hspsr, hstale, hmem, hinputs, hrecords, hreplies, hcontrol, hevents, hnext⟩ := frame_of_withExchange hframe
  exact ⟨t, ht, hcontrol, hreplies, hevents, hcpsr, regsKeptBut_of_withExchange hregs, hspsr, hstale, hmem, hinputs,
    hrecords, hnext⟩

end Sys2Proof.Machine
end

section
/-! SUPPORT. The single transfers (spec/45_single_data_transfer.md R341 to R355): the four as one operation, a row of
checks, one access and what follows it; then the ends of R343 to R346. -/

namespace Sys2Proof.Machine

open Sys2Proof.Claims

/-! ### The four transfers as one -/

/-- L = 1 (R171). -/
def isLoad : Single → Bool
  | .ldr | .ldrb => true
  | .str | .strb => false

/-- B = 1 (R171). -/
def isByte : Single → Bool
  | .ldr | .str => false
  | .ldrb | .strb => true

/-- The request of a single transfer (R103). -/
def singleRequest : Single → RequestKind
  | .ldr => .load
  | .ldrb => .loadB
  | .str => .store
  | .strb => .storeB

/-- What follows an access that is not answered with an abort (R343 to R346). -/
def singleEnd (k : Single) (pre wb : Bool) (rn rd : RegNo) (moved a : Word) (s : State) : Result :=
  match k with
  | .ldr => writeResult (writeBack s pre wb rn moved) rd (rotateLoaded (wordAt s a) a)
  | .ldrb => advance (writeReg (writeBack s pre wb rn moved) rd ((byteAt s a).setWidth 32))
  | .str => advance (writeBack (markStale (setWord s a (storedValue s pre wb rn rd)) a) pre wb rn moved)
  | .strb =>
    advance (writeBack (markStale (setByte s a (field (storedValue s pre wb rn rd) 0 8)) a) pre wb rn moved)

/-- The register of an offset, if it has one. -/
def offsetRegister : Offset → Option RegNo
  | .imm _ => none
  | .reg _ _ rm => some rm

/-- The checks of an offset register, where there is one (R352, R353). -/
def checkOffsetRegister (pre : Bool) (rn : RegNo) (r : Option RegNo) (body : Result) : Result :=
  r.elim body fun rm => checkOffset pre rn rm body

section
variable {k : Single} {c : Cond} {up : Bool} {rn rd : RegNo} {ix : Index} {o : Offset} {s : State}

theorem isLoad_eq_true : isLoad k = true ↔ k ∈ [Single.ldr, .ldrb] := by cases k <;> decide

theorem isByte_eq_true : isByte k = true ↔ k ∈ [Single.ldrb, .strb] := by cases k <;> decide

theorem isLoad_eq_false : isLoad k = false ↔ k ∈ [Single.str, .strb] := by cases k <;> decide

theorem singleOp_eq (k : Single) (priv pre up wb : Bool) (rn rd : RegNo) (off : Word) (s : State) :
    let a := transferAddress pre up (readReg s .n rn) off
    singleOp k priv pre up wb rn rd off s
      = checkSingle (isLoad k) (isByte k) pre wb rn rd s
          (refuseIf (!isByte k && rd == 15 && !wordAligned a) .misalignedPcTransfer
            (if requestAborts s (singleRequest k) priv a then .next (takeDataAbort s)
              else singleEnd k pre wb rn rd (indexed up (readReg s .n rn) off) a s)) := by
  intro a
  generalize hb : requestAborts s (singleRequest k) priv a = b
  cases k with
  | ldr =>
    simp only [singleOp, loadWordReg, loadWord, show requestAborts s .load priv (transferAddress ..) = b from hb]
    cases b <;> rfl
  | ldrb =>
    simp only [singleOp, loadByteReg, loadByte, show requestAborts s .loadB priv (transferAddress ..) = b from hb]
    cases b <;> rfl
  | str =>
    simp only [singleOp, storeWordReg, storeWord, show requestAborts s .store priv (transferAddress ..) = b from hb]
    cases b <;> rfl
  | strb =>
    simp only [singleOp, storeByteReg, storeByte, show requestAborts s .storeB priv (transferAddress ..) = b from hb]
    cases b <;> rfl

/-- In both offset forms an instruction whose condition passes is the checks of its offset register, then one operation on
the offset's value (R341). -/
theorem exec_single_of_passed (hc : conditionPassed c s.cpsr = true) (k : Single) (up : Bool) (rn rd : RegNo)
    (ix : Index) (o : Offset) :
    exec (single k c up rn rd ix o) s
      = checkOffsetRegister (isPre ix) rn (offsetRegister o)
          (singleOp k (accessPrivileged s ix) (isPre ix) up (indexW ix) rn rd (offsetValue s o) s) := by
  cases o with
  | imm v =>
    rw [exec_single_imm, whenPassed_pass hc, offsetValue, BitVec.ofNat_toNat]
    rfl
  | reg n ty rm =>
    rw [exec_single_reg, whenPassed_pass hc]
    rfl

/-- Bits 1:0 of an address are 00 exactly when four divides it. -/
theorem wordAligned_eq_true {a : Word} : wordAligned a = true ↔ a.toNat % 4 = 0 := by
  have h0 : a.getLsbD 0 = decide (a.toNat % 2 = 1) := by rw [BitVec.getLsbD, Nat.testBit_zero]
  have h1 : a.getLsbD 1 = decide (a.toNat / 2 % 2 = 1) := by
    rw [BitVec.getLsbD, Nat.testBit_succ, Nat.testBit_zero]
  rw [wordAligned, h0, h1]
  simp only [Bool.and_eq_true, Bool.not_eq_true', decide_eq_false_iff_not]
  omega

/-- A word from an aligned address is not rotated (R90). -/
theorem rotateLoaded_of_aligned {a : Word} (h : a.toNat % 4 = 0) (w : Word) : rotateLoaded w a = w :=
  BitVec.eq_of_getLsbD_eq fun i hi => (rotatedRight_rotateLoaded w a i hi).trans (congrArg w.getLsbD (by omega))

/-! ### The uses that are allowed -/

theorem checkOffsetRegister_pass {pre : Bool} {r : Option RegNo}
    (h : ∀ rm, r = some rm → rm ≠ 15 ∧ (pre = false → rm ≠ rn)) (body : Result) :
    checkOffsetRegister pre rn r body = body := by
  cases r with
  | none => rfl
  | some rm =>
    obtain ⟨h15, hpost⟩ := h rm rfl
    exact checkOffset_pass h15 hpost

theorem checkSingle_pass {load byte pre wb : Bool} (hrn : writesBack pre wb = true → rn ≠ 15)
    (hrd : byte = true → rd ≠ 15) (hne : load = true → writesBack pre wb = true → rd ≠ rn)
    (h26 : is26 s.cpsr.mode = true → rn ≠ 15 ∧ (load = false → rd ≠ 15)) (body : Result) :
    checkSingle load byte pre wb rn rd s body = body := by
  have hbase : (writesBack pre wb && rn == 15) = false := by simpa using hrn
  have hbyte : (byte && rd == 15) = false := by simpa using hrd
  have hload : (load && writesBack pre wb && rd == rn) = false := by simpa using hne
  have hread : readsPc26 s (rn == 15 || (!load && rd == 15)) = false := readsPc26_eq_false fun h => by simpa using h26 h
  rw [checkSingle, hbase, hbyte, hload, hread]
  rfl

/-- What an allowed use says of its operands (R348 to R353). -/
theorem operands_of_singleAllowed (h : SingleAllowed s k up rn rd ix o) :
    (writesBack (isPre ix) (indexW ix) = true → rn ≠ 15) ∧ (isByte k = true → rd ≠ 15)
      ∧ (isLoad k = true → writesBack (isPre ix) (indexW ix) = true → rd ≠ rn)
      ∧ (rd = 15 → (singleAddress s up rn ix o).toNat % 4 = 0) := by
  obtain ⟨hok, -⟩ := h
  simp only [SingleForbidden, not_or, not_and, not_not] at hok
  obtain ⟨hbase, hbyte, hload, haligned, -⟩ := hok
  rw [writesBack_index, isByte_eq_true, isLoad_eq_true]
  exact ⟨hbase, hbyte, hload, haligned⟩

theorem offsetRegister_of_singleAllowed (h : SingleAllowed s k up rn rd ix o) (rm : RegNo)
    (hrm : offsetRegister o = some rm) : rm ≠ 15 ∧ (isPre ix = false → rm ≠ rn) := by
  obtain ⟨hok, -⟩ := h
  simp only [SingleForbidden, not_or] at hok
  obtain ⟨-, -, -, -, hoff⟩ := hok
  cases o with
  | imm v => exact absurd hrm (by simp [offsetRegister])
  | reg n ty rm' =>
    obtain rfl : rm' = rm := Option.some.inj hrm
    obtain ⟨h15, hpost⟩ := not_or.mp hoff
    exact ⟨h15, fun hp e => hpost ⟨hp, e⟩⟩

/-- An allowed transfer passes every check: what is left is the access (R354) and what follows it. -/
theorem exec_single_of_allowed (hc : conditionPassed c s.cpsr = true) (h : SingleAllowed s k up rn rd ix o) :
    exec (single k c up rn rd ix o) s
      = if requestAborts s (singleRequest k) (accessPrivileged s ix) (singleAddress s up rn ix o)
        then .next (takeDataAbort s)
        else singleEnd k (isPre ix) (indexW ix) rn rd (singleBase s up rn o) (singleAddress s up rn ix o) s := by
  obtain ⟨hrn, hrd, hne, haligned⟩ := operands_of_singleAllowed h
  have hoff := offsetRegister_of_singleAllowed h
  obtain ⟨-, h26⟩ := h
  rw [← isLoad_eq_false] at h26
  have hmis : (!isByte k && rd == 15 && !wordAligned (singleAddress s up rn ix o)) = false := by
    by_cases h15 : rd = 15
    · rw [wordAligned_eq_true.mpr (haligned h15), Bool.not_true, Bool.and_false]
    · rw [beq_false_of_ne h15, Bool.and_false, Bool.false_and]
  rw [exec_single_of_passed hc, checkOffsetRegister_pass hoff, singleOp_eq, checkSingle_pass hrn hrd hne h26]
  exact congrArg (refuseIf · _ _) hmis

end

/-! ### The end of a jump -/

/-- The end of a load of R15: the base written back, then the PC (R342, R350). -/
theorem branchTo_writeBack {s : State} {pre wb : Bool} {rn : RegNo} (hrn : writesBack pre wb = true → rn ≠ 15)
    (moved v : Word) :
    let t := branchTo (writeBack s pre wb rn moved) v
    t.pc = pcAfter s.cpsr.mode v ∧ (writesBack pre wb = true → Holds s t rn moved)
      ∧ RegsKeptBut s t (baseTarget s (writesBack pre wb) rn) ∧ t.cpsr = s.cpsr ∧ JumpFrame s t := by
  refine ⟨?_, fun h => holds_branchTo (holds_writeBack hrn moved h) v, ?_, writeBack_cpsr .., ?_⟩
  · rw [branchTo_pc, pcOf_eq_pcAfter, writeBack_cpsr]
  · exact regsKeptBut_branchTo (regsKeptBut_writeBack hrn moved) v
  · exact jumpFrame_branchTo (jumpFrame_writeBack ..) v

/-! ### The obligations -/

/-- Settles O23: the rotated word ends as any load does (`advance_writeReg_writeBack`), or as a jump to a word that an
aligned address does not rotate. (In this namespace the bare name is the model's function.) -/
theorem SingleTransfer.loadWord : Obligations.LoadWord := by
  intro c up rn rd ix o s hc hallowed i a
  obtain ⟨hrn, -, hne, haligned⟩ := operands_of_singleAllowed hallowed
  rw [exec_single_of_allowed hc hallowed, ← writesBack_index]
  refine ⟨fun h => ⟨_, if_pos h, dataAborted_takeDataAbort s⟩, fun h hrd hf => ?_, fun h hrd => ?_⟩
  · obtain ⟨t, ht, hdest, hbase, hframe⟩ :=
      advance_writeReg_writeBack hf hrd hrn (hne rfl) (singleBase s up rn o) (rotateLoaded (wordAt s a) a)
    refine ⟨t, _, (if_neg (Bool.eq_false_iff.mp h)).trans ?_, hdest, rotatedRight_rotateLoaded _ a, hbase, hframe⟩
    exact (if_neg hrd).trans ht
  · refine ⟨_, (if_neg (Bool.eq_false_iff.mp h)).trans (if_pos hrd), ?_⟩
    rw [rotateLoaded_of_aligned (haligned hrd)]
    exact branchTo_writeBack hrn (singleBase s up rn o) (wordAt s a)

/-- Settles O24. (In this namespace the bare name is the model's function.) -/
theorem SingleTransfer.loadByte : Obligations.LoadByte := by
  intro c up rn rd ix o s hc hallowed i a
  obtain ⟨hrn, hrd, hne, -⟩ := operands_of_singleAllowed hallowed
  rw [exec_single_of_allowed hc hallowed, ← writesBack_index]
  refine ⟨fun h => ⟨_, if_pos h, dataAborted_takeDataAbort s⟩, fun h hf => ?_⟩
  obtain ⟨t, ht, hdest, hbase, hframe⟩ :=
    advance_writeReg_writeBack hf (hrd rfl) hrn (hne rfl) (singleBase s up rn o) ((byteAt s a).setWidth 32)
  exact ⟨t, _, (if_neg (Bool.eq_false_iff.mp h)).trans ht, hdest, BitVec.toNat_setWidth_of_le (by decide), hbase,
    hframe⟩

/-- Settles O25: the word is written first, and the write-back leaves memory. (In this namespace the bare name is the
model's function.) -/
theorem SingleTransfer.storeWord : Obligations.StoreWord := by
  intro c up rn rd ix o s hc hallowed i a
  obtain ⟨hrn, -⟩ := operands_of_singleAllowed hallowed
  rw [exec_single_of_allowed hc hallowed, ← writesBack_index]
  refine ⟨fun h => ⟨_, if_pos h, dataAborted_takeDataAbort s⟩, fun h hf => ?_⟩
  let v := storedValue s (isPre ix) (indexW ix) rn rd
  obtain ⟨t, ht, hmem, hframe⟩ := advance_writeBack_markStale hf hrn (setWord s a v).mem a (singleBase s up rn o)
  rw [← setWord_eq] at ht
  refine ⟨t, (if_neg (Bool.eq_false_iff.mp h)).trans ht, fun hkept => ?_, fun x hx => ?_, hframe⟩
  · have hbig : t.bigend = (setWord s a v).bigend := by rw [bigend_of_storeFrame hframe, setWord_bigend]
    calc wordAt t a = v := (wordAt_congr hmem hbig a).trans (wordAt_setWord s a v)
      _ = readReg s .d rd := storedValue_of_kept hkept s
  · exact (byteAt_congr hmem x).trans (memKeptOutside_setWord s a v x hx)

/-- Settles O26: as O25, with one byte. (In this namespace the bare name is the model's function.) -/
theorem SingleTransfer.storeByte : Obligations.StoreByte := by
  intro c up rn rd ix o s hc hallowed i a
  obtain ⟨hrn, -⟩ := operands_of_singleAllowed hallowed
  rw [exec_single_of_allowed hc hallowed, ← writesBack_index]
  refine ⟨fun h => ⟨_, if_pos h, dataAborted_takeDataAbort s⟩, fun h hf => ?_⟩
  let b := field (storedValue s (isPre ix) (indexW ix) rn rd) 0 8
  obtain ⟨t, ht, hmem, hframe⟩ := advance_writeBack_markStale hf hrn (setByte s a b).mem a (singleBase s up rn o)
  refine ⟨t, (if_neg (Bool.eq_false_iff.mp h)).trans ht, fun hkept => ?_, fun x hx => ?_, hframe⟩
  · calc byteAt t a = b := (byteAt_congr hmem a).trans (byteAt_setByte_same s a b)
      _ = (readReg s .d rd).extractLsb' 0 8 := congrArg (field · 0 8) (storedValue_of_kept hkept s)
  · exact (byteAt_congr hmem x).trans (memKeptOutside_setByte s a b x hx)

end Sys2Proof.Machine
end

section
/-! SUPPORT. The forbidden uses of the single and halfword transfers (spec/45_single_data_transfer.md R348 to R353,
spec/46_halfword_signed_transfer.md R378, R380): a row of checks refuses whatever one of them forbids. -/

namespace Sys2Proof.Machine

open Sys2Proof.Claims

/-! ### A row of checks -/

/-- The outcome is a refusal by one of the names listed. -/
def RefusedBy (l : List Refusal) (body : Result) : Prop := ∃ r ∈ l, body = .refused r

section
variable {l : List Refusal} {body : Result}

/-- A check refuses by its own name, or it is for what follows it to refuse. -/
theorem refusedBy_refuseIf {b : Bool} {r : Refusal} (hr : r ∈ l) (h : b = false → RefusedBy l body) :
    RefusedBy l (refuseIf b r body) := by
  cases b with
  | true => exact ⟨r, hr, rfl⟩
  | false => exact h rfl

/-- What is forbidden to the register of an offset (R352, R353). -/
def OffsetForbidden (pre : Bool) (rn : RegNo) (r : Option RegNo) : Prop :=
  ∃ rm, r = some rm ∧ (rm = 15 ∨ (pre = false ∧ rm = rn))

theorem refusedBy_checkOffsetRegister {pre : Bool} {rn : RegNo} {r : Option RegNo}
    (h15 : Refusal.offsetRegisterR15 ∈ l) (hpost : Refusal.postIndexBaseIsOffset ∈ l)
    (h : ¬ OffsetForbidden pre rn r → RefusedBy l body) : RefusedBy l (checkOffsetRegister pre rn r body) := by
  cases r with
  | none => exact h fun ⟨_, hr, _⟩ => nomatch hr
  | some rm =>
    refine refusedBy_refuseIf h15 fun hrm => refusedBy_refuseIf hpost fun hbase => h ?_
    rintro ⟨_, ⟨⟩, rfl | ⟨rfl, rfl⟩⟩
    · simp at hrm
    · simp at hbase

end

/-! ### Single transfers -/

section
variable {k : Single} {up : Bool} {rn rd : RegNo} {ix : Index} {o : Offset} {s : State}

/-- R348 to R353 in the terms of the checks. -/
theorem singleForbidden_iff : SingleForbidden s k up rn rd ix o ↔
    (writesBack (isPre ix) (indexW ix) && rn == 15) = true ∨ (isByte k && rd == 15) = true
      ∨ (isLoad k && writesBack (isPre ix) (indexW ix) && rd == rn) = true
      ∨ (rd == 15 && !wordAligned (singleAddress s up rn ix o)) = true
      ∨ OffsetForbidden (isPre ix) rn (offsetRegister o) := by
  unfold SingleForbidden
  refine or_congr ?_ <| or_congr ?_ <| or_congr ?_ <| or_congr ?_ ?_
  · rw [Bool.and_eq_true, beq_iff_eq, writesBack_index]
  · rw [Bool.and_eq_true, beq_iff_eq, isByte_eq_true]
  · rw [Bool.and_eq_true, Bool.and_eq_true, beq_iff_eq, writesBack_index, isLoad_eq_true, and_assoc]
  · rw [Bool.and_eq_true, beq_iff_eq, Bool.not_eq_true', ← Bool.not_eq_true, wordAligned_eq_true]
  · cases o <;> simp [OffsetForbidden, offsetRegister]

theorem refusedBy_of_singleForbidden {c : Cond} (hc : conditionPassed c s.cpsr = true)
    (h : SingleForbidden s k up rn rd ix o) :
    RefusedBy [.writeBackToR15, .byteTransferOfR15, .loadWriteBackToDestination, .misalignedPcTransfer,
      .offsetRegisterR15, .postIndexBaseIsOffset, .r15ReadIn26BitMode] (exec (single k c up rn rd ix o) s) := by
  rw [exec_single_of_passed hc, singleOp_eq]
  refine refusedBy_checkOffsetRegister (by simp) (by simp) fun hoff => ?_
  refine refusedBy_refuseIf (by simp) fun hbase => refusedBy_refuseIf (by simp) fun hbyte => ?_
  refine refusedBy_refuseIf (by simp) fun hload => refusedBy_refuseIf (by simp) fun _ => ?_
  refine refusedBy_refuseIf (by simp) fun hmis => ?_
  have hword : (rd == 15 && !wordAligned (singleAddress s up rn ix o)) = false := by
    cases hk : isByte k with
    | true =>
      rw [hk, Bool.true_and] at hbyte
      rw [hbyte, Bool.false_and]
    | false =>
      rw [hk, Bool.not_false, Bool.true_and] at hmis
      exact hmis
  rw [singleForbidden_iff, hbase, hbyte, hload, hword] at h
  exact absurd h (by simpa using hoff)

end

/-! ### Halfword and signed transfers -/

/-- The register of an offset, if it has one. -/
def halfOffsetRegister : HalfOffset → Option RegNo
  | .imm _ => none
  | .reg rm => some rm

section
variable {k : HalfKind} {up : Bool} {rn rd : RegNo} {pre : Option Bool} {o : HalfOffset} {s : State}

/-- In both offset forms an instruction whose condition passes is the checks of its offset register, then one operation on
the offset's value (R371). -/
theorem exec_half_of_passed {c : Cond} (hc : conditionPassed c s.cpsr = true) (k : HalfKind) (up : Bool)
    (rn rd : RegNo) (pre : Option Bool) (o : HalfOffset) :
    exec (half k c up rn rd pre o) s
      = checkOffsetRegister pre.isSome rn (halfOffsetRegister o)
          (halfOp k pre.isSome up (pre.getD false) rn rd (halfOffsetValue s o) s) := by
  cases o with
  | imm v =>
    rw [exec_half_imm, whenPassed_pass hc, halfOffsetValue, BitVec.ofNat_toNat]
    rfl
  | reg rm =>
    rw [exec_half_reg, whenPassed_pass hc]
    rfl

/-- The four transfers begin with the same checks; STRH alone then looks at the address (R378, R380). -/
theorem halfOp_checks (k : HalfKind) (pre up wb : Bool) (rn rd : RegNo) (off : Word) (s : State) :
    ∃ body, halfOp k pre up wb rn rd off s
      = checkHalf (k != .strh) pre wb rn rd s
          (refuseIf (k == .strh && (transferAddress pre up (readReg s .n rn) off).getLsbD 0) .misalignedHalfwordStore
            body) := by
  cases k <;> exact ⟨_, rfl⟩

/-- R378 and R380 in the terms of the checks. -/
theorem halfForbidden_iff : HalfForbidden s k up rn rd pre o ↔
    (rd == 15) = true ∨ (writesBack pre.isSome (pre.getD false) && rn == 15) = true
      ∨ (k != .strh && writesBack pre.isSome (pre.getD false) && rd == rn) = true
      ∨ (k == .strh && (halfAddress s up rn pre o).getLsbD 0) = true
      ∨ OffsetForbidden pre.isSome rn (halfOffsetRegister o) := by
  unfold HalfForbidden
  refine or_congr ?_ <| or_congr ?_ <| or_congr ?_ <| or_congr ?_ ?_
  · rw [beq_iff_eq]
  · rw [Bool.and_eq_true, beq_iff_eq, writesBack_half]
  · rw [Bool.and_eq_true, Bool.and_eq_true, bne_iff_ne, beq_iff_eq, writesBack_half, and_assoc]
  · rw [Bool.and_eq_true, beq_iff_eq, ← Bool.not_eq_false, getLsbD_zero_eq_false, not_not]
  · cases o <;> simp [OffsetForbidden, halfOffsetRegister]

theorem refusedBy_of_halfForbidden {c : Cond} (hc : conditionPassed c s.cpsr = true)
    (h : HalfForbidden s k up rn rd pre o) :
    RefusedBy [.writeBackToR15, .halfwordTransferOfR15, .loadWriteBackToDestination, .misalignedHalfwordStore,
      .offsetRegisterR15, .postIndexBaseIsOffset, .r15ReadIn26BitMode] (exec (half k c up rn rd pre o) s) := by
  obtain ⟨body, hop⟩ := halfOp_checks k pre.isSome up (pre.getD false) rn rd (halfOffsetValue s o) s
  rw [exec_half_of_passed hc, hop]
  refine refusedBy_checkOffsetRegister (by simp) (by simp) fun hoff => ?_
  refine refusedBy_refuseIf (by simp) fun hdest => refusedBy_refuseIf (by simp) fun hbase => ?_
  refine refusedBy_refuseIf (by simp) fun hload => refusedBy_refuseIf (by simp) fun _ => ?_
  refine refusedBy_refuseIf (by simp) fun (hodd : (k == .strh && (halfAddress s up rn pre o).getLsbD 0) = false) => ?_
  rw [halfForbidden_iff, hdest, hbase, hload, hodd] at h
  exact absurd h (by simpa using hoff)

end

/-! ### The obligation -/

/-- Settles O29: a forbidden use that passed every check would contradict one of them. -/
theorem transferRefused : Obligations.TransferRefused :=
  ⟨fun _ _ _ _ _ _ _ _ => refusedBy_of_singleForbidden, fun _ _ _ _ _ _ _ _ => refusedBy_of_halfForbidden⟩

end Sys2Proof.Machine
end

section
/-! SUPPORT. The addresses of the transfers (spec/45_single_data_transfer.md R342,
spec/46_halfword_signed_transfer.md R372, spec/47_block_data_transfer.md R391 to R394). -/

namespace Sys2Proof.Machine

open Sys2Proof.Claims

theorem indexed_toNat (up : Bool) (base off : Word) : (indexed up base off).toNat
    = (if up then base.toNat + off.toNat else base.toNat + (2 ^ 32 - off.toNat)) % 2 ^ 32 := by
  cases up with
  | true => exact BitVec.toNat_add base off
  | false => exact (BitVec.toNat_sub base off).trans (congrArg (· % 2 ^ 32) (Nat.add_comm ..))

/-- The list is in ascending order (R391). -/
theorem pairwise_registerList (list : BitVec 16) : (registerList list).Pairwise fun a b => a.toNat < b.toNat := by
  have hrange : ((List.range 16).filter fun k => list.getLsbD k).Pairwise (· < ·) := List.pairwise_lt_range.filter _
  refine List.pairwise_map.mpr (hrange.imp_of_mem fun {i j} hi hj hlt => ?_)
  have hi' := List.mem_range.mp (List.mem_of_mem_filter hi)
  have hj' := List.mem_range.mp (List.mem_of_mem_filter hj)
  rwa [BitVec.toNat_ofNat, BitVec.toNat_ofNat, Nat.mod_eq_of_lt hi', Nat.mod_eq_of_lt hj']

/-- The incrementing mode of the other P bit starts where the decrementing one started, from the base it left (R393). -/
theorem blockStart_blockWriteBack (pre : Bool) (base : Word) (n : Nat) :
    blockStart (!pre) true (blockWriteBack false base n) n = blockStart pre false base n := by
  cases pre <;> rfl

/-- Pushed words popped again leave the old base (R393). -/
theorem blockWriteBack_blockWriteBack (base : Word) (n : Nat) :
    blockWriteBack true (blockWriteBack false base n) n = base := BitVec.sub_add_cancel base (blockSize n)

/-- Settles O30: the rows of the four modes are the model's own, and the stack pairing follows from them. -/
theorem transferAddresses : Obligations.TransferAddresses := by
  refine ⟨fun pre up base off => ⟨indexed_toNat up base off, rfl⟩,
    fun list => ⟨pairwise_registerList list, fun _ => mem_registerList⟩, fun base n _ => ?_⟩
  exact ⟨rfl, rfl, rfl, rfl, rfl, rfl, fun pre => blockStart_blockWriteBack pre base n,
    blockWriteBack_blockWriteBack base n⟩

end Sys2Proof.Machine
end
